-- ==== Sys2Proof/Word.lean ====
section
/-!
DEFINITION. The word types of the CT24 model, and `Table`, the fixed number of like records that a
block of the controller owns (48 channels, 32 slots, 8 zones and so on).
-/

namespace Sys2Proof

/-- One byte of a frame or of a segment entry. -/
abbrev Byte := BitVec 8

/-- Part time: a 32-bit count of milliseconds since the last reset, which wraps (section 4.3). -/
abbrev PartTime := BitVec 32

/-- A stream number, 0..4095 (R143). -/
abbrev StreamId := BitVec 12

/-- A timer: absent while stopped, otherwise the part time at which it expires. -/
abbrev Timer := Option PartTime

/-- Exactly `n` records of one kind, in index order. -/
structure Table (n : Nat) (α : Type) where
  items : List α
  size : items.length = n
  deriving DecidableEq, Repr

namespace Table

variable {n : Nat} {α β : Type}

/-- Record `i`. -/
def get (t : Table n α) (i : Fin n) : α := t.items[i.val]'(t.size.symm ▸ i.isLt)

/-- The table with record `i` replaced. -/
def set (t : Table n α) (i : Fin n) (a : α) : Table n α :=
  ⟨t.items.set i.val a, by rw [List.length_set, t.size]⟩

/-- The table whose record `i` is `f i`. -/
def tabulate (f : Fin n → α) : Table n α := ⟨List.ofFn f, List.length_ofFn⟩

/-- Every record changed by a function of its index and itself. -/
def map (f : Fin n → α → β) (t : Table n α) : Table n β := tabulate fun i => f i (t.get i)

/-- The table with every record equal to `a`. -/
def fill (n : Nat) (a : α) : Table n α := ⟨List.replicate n a, List.length_replicate⟩

/-- Record `i` changed by a function. -/
def modify (t : Table n α) (i : Fin n) (f : α → α) : Table n α := t.set i (f (t.get i))

/-- Whether some record satisfies a test. -/
def any (t : Table n α) (p : α → Bool) : Bool := t.items.any p

@[simp] theorem get_set_self (t : Table n α) (i : Fin n) (a : α) : (t.set i a).get i = a := by
  simp [get, set]

@[simp] theorem get_set_ne (t : Table n α) (i j : Fin n) (a : α) (h : i ≠ j) :
    (t.set i a).get j = t.get j := by
  have h' : i.val ≠ j.val := fun e => h (Fin.ext e)
  simp [get, set, h']

theorem get_set (t : Table n α) (i j : Fin n) (a : α) :
    (t.set i a).get j = if i = j then a else t.get j := by
  by_cases h : i = j
  · subst h; simp
  · simp [h]

@[simp] theorem get_tabulate (f : Fin n → α) (i : Fin n) : (tabulate f).get i = f i := by
  simp [get, tabulate]

@[simp] theorem get_map (f : Fin n → α → β) (t : Table n α) (i : Fin n) :
    (t.map f).get i = f i (t.get i) := by
  simp [map]

@[simp] theorem get_fill (a : α) (i : Fin n) : (fill n a).get i = a := by
  simp [get, fill]

@[simp] theorem get_modify_self (t : Table n α) (i : Fin n) (f : α → α) :
    (t.modify i f).get i = f (t.get i) := by
  simp [modify]

@[simp] theorem get_modify_ne (t : Table n α) (i j : Fin n) (f : α → α) (h : i ≠ j) :
    (t.modify i f).get j = t.get j := by
  simp [modify, h]

theorem get_modify (t : Table n α) (i j : Fin n) (f : α → α) :
    (t.modify i f).get j = if i = j then f (t.get i) else t.get j := by
  simp [modify, get_set]

/-- Two tables with equal records are equal. -/
theorem ext_get {s t : Table n α} (h : ∀ i, s.get i = t.get i) : s = t := by
  obtain ⟨l, hl⟩ := s
  obtain ⟨m, hm⟩ := t
  subst hl
  have : l = m := by
    apply List.ext_getElem hm.symm
    intro i h1 h2
    simpa [get] using h ⟨i, h1⟩
  subst this
  rfl

theorem any_iff (t : Table n α) (p : α → Bool) : t.any p = true ↔ ∃ i, p (t.get i) = true := by
  obtain ⟨l, hl⟩ := t
  subst hl
  simp only [any, List.any_eq_true, get]
  constructor
  · rintro ⟨x, hx, hp⟩
    obtain ⟨k, hk, rfl⟩ := List.getElem_of_mem hx
    exact ⟨⟨k, hk⟩, hp⟩
  · rintro ⟨i, hp⟩
    exact ⟨_, List.getElem_mem _, hp⟩

end Table

end Sys2Proof
end

