-- ==== Sys2Proof/Syntax.lean ====
section
/-!
DEFINITION. The commands of the controller: one constructor of `Instr` for each row of
spec/opcode_table.json, with its operands, and the frames that some of them carry.
-/

namespace Sys2Proof

/-- The two frame ports (section 1.2). -/
inductive Port where
  | vehicle
  | plant
  deriving DecidableEq, Repr

/-- The valid frame kinds, encoded 0 to 5 (R143). -/
inductive FrameKind where
  | sample
  | state
  | command
  | manage
  | reply
  | notice
  deriving DecidableEq, Repr

/-- A well-formed link frame (R143, R192). `spare` holds the five header bits shown as "0", as they
arrived: they are ignored when received, and a forwarded frame is sent as it arrived. The length
field is the number of payload bytes. -/
structure Frame where
  stream : StreamId
  kind : FrameKind
  sequence : Byte
  payload : List Byte
  check : BitVec 16
  spare : BitVec 5
  deriving DecidableEq, Repr

/-- The three body sections (section 1.1). -/
inductive BodySection where
  | a
  | b
  | c
  deriving DecidableEq, Repr

/-- The commands: every step of the part that spec/opcode_table.json lists. -/
inductive Instr where
  /-- The supply pins come up, with the node straps as they stand (R188). -/
  | powerOn (straps : BitVec 3)
  /-- The reset input is released, with the node straps as they stand (R188). -/
  | lineReset (straps : BitVec 3)
  /-- Reception of these bytes completes at a port (R144). -/
  | frameReception (port : Port) (bytes : List Byte)
  /-- The plant silence timer expires (R145). -/
  | plantSilenceExpiry
  /-- The classifier takes the head frame of a port's receive queue (R152). -/
  | classifyFrame (port : Port)
  /-- The freshness timer of the stream entry with this key expires (R154). -/
  | freshnessExpiry (side : Port) (stream : StreamId)
  /-- The sample unit takes a frame for a channel (R131). -/
  | sampleFrame (channel : Fin 48) (frame : Frame)
  /-- The sample unit takes a freshness expiry for a channel (R134). -/
  | channelFreshnessExpiry (channel : Fin 48)
  /-- The stale timer of a channel expires (R135). -/
  | staleTimerExpiry (channel : Fin 48)
  /-- The door unit takes a frame for a door (R78). -/
  | doorFrame (door : Fin 8) (frame : Frame)
  /-- The door unit takes a freshness expiry for a door (R88). -/
  | doorStale (door : Fin 8)
  /-- A door's step timer expires (R80). -/
  | doorStep (door : Fin 8)
  /-- A zone's hold-over timer expires (R85). -/
  | holdOverExpiry (zone : Fin 8)
  /-- The supply unit takes a frame (R52). -/
  | supplyFrame (frame : Frame)
  /-- The supply unit takes a freshness expiry (R59). -/
  | supplyFreshnessExpiry
  /-- The settle timer expires (R57). -/
  | settleExpiry
  /-- The gap timer expires (R58). -/
  | gapExpiry
  /-- The budget period timer expires (R67). -/
  | budgetPeriodExpiry
  /-- A compressor's minimum run timer expires (R36). -/
  | minimumRunExpiry (part : BodySection)
  /-- A compressor's restart lock expires (R39). -/
  | lockExpiry (part : BodySection)
  /-- A zone's pass timer expires (R5). -/
  | zonePass (zone : Fin 8)
  /-- A zone's bank release timer expires (R22). -/
  | bankReleaseExpiry (zone : Fin 8)
  /-- A panel's evaluation timer expires (R93). -/
  | panelEvaluation (panel : Fin 4)
  /-- A panel's escalate timer expires (R98). -/
  | escalateExpiry (panel : Fin 4)
  /-- A panel's run-on timer expires (R99). -/
  | runOnExpiry (panel : Fin 4)
  /-- A slot's refresh timer expires (R45). -/
  | refreshExpiry (slot : Fin 32)
  /-- The actuator unit takes a frame for a slot (R46). -/
  | echoFrame (slot : Fin 32) (frame : Frame)
  /-- The override unit takes a console SET: the coded kind and target, the signed value and the
  duration in minutes (R112, R114, R193). -/
  | set (kind target : Byte) (value : BitVec 16) (duration : BitVec 16)
  /-- The override unit takes a console CANCEL (R115). -/
  | cancel (kind target : Byte)
  /-- The override unit takes a console CANCEL_ALL (R116). -/
  | cancelAll
  /-- The notice unit takes the console's acknowledgement (R170). -/
  | ackNotices
  /-- The expiry timer of the override entry with this coded key expires (R117). -/
  | overrideExpiry (kind target : Byte)
  /-- The status timer expires (R125). -/
  | statusTimerExpiry
  /-- A transmission on the vehicle port completes (R157). -/
  | vehicleTxCompletion
  /-- A transmission on the plant port completes (R161). -/
  | plantTxCompletion
  /-- The session timer expires (R183). -/
  | sessionTimerExpiry
  /-- The store operation completes (R184). -/
  | storeCompletion
  /-- The service inactivity timer expires (R185). -/
  | inactivityExpiry
  /-- The override unit takes a console frame whose action is undefined (R112). -/
  | undefinedConsoleAction
  /-- The supply pins go down (R188). -/
  | supplyDown
  /-- The reset input is asserted (R188). -/
  | resetInputHeld
  deriving DecidableEq, Repr

end Sys2Proof
end

