-- ==== Sys2Proof/Decode.lean ====
section
/-!
DEFINITION. The command that a table word spells. No row of spec/opcode_table.json gives bits:
the commands are events, not encoded words, so no word spells a command. The encodings the spec
does give (frames, requests, segment entries) are read in Machine/Frames.lean, Machine/Operands.lean
and Machine/Entries.lean.
-/

namespace Sys2Proof

/-- No row of the table has bits. -/
def decodeTableWord (_nbits _w : Nat) : Option Instr := none

end Sys2Proof
end

