-- ==== Sys2Proof/Config.lean ====
section
/-!
DEFINITION. What this edition of the part fixes, and the values the manual leaves free.
A free value is a constant without a body: nothing can be proved of it, so a claim that holds holds
whatever it is.
-/

namespace Sys2Proof.Config

/-- The part code that IDENTIFY returns (R178). -/
def partCode : BitVec 16 := 0x5C24

/-- The silicon revision that IDENTIFY returns (R178). -/
def siliconRevision : BitVec 8 := 3

/-- FREE VALUE (log entry 7). The power, before the limit at the rated power, of a glazing
contribution asked as stage `stage` of a load that a LOADS adoption has made continuous.
R51 keeps the asked stage, and R29 gives no power for a stage of a continuous load. -/
opaque stagePowerOnContinuous (rated stage : Nat) : Nat

end Sys2Proof.Config
end

