-- ==== Sys2Proof/Machine/State.lean ====
section
/-!
DEFINITION. The state of the controller, block by block as section 2.1 lists them, the reasons a
step can stop, and the state right after a POWER_ON reset of a controller whose store was never
written (R188).
-/

namespace Sys2Proof.Machine

/-! ## Names -/

/-- The supply states (R53). `returning` is RETURN. -/
inductive SupplyState where
  | start
  | returning
  | live
  | sag
  | gap
  | dewired
  deriving DecidableEq, Repr

/-- The zone modes (R4). -/
inductive ZoneMode where
  | off
  | regulate
  | fallback
  deriving DecidableEq, Repr

/-- A zone's rounding mode (section 4.4). -/
inductive Rounding where
  | chop
  | nearest
  deriving DecidableEq, Repr

/-- The kinds of a load slot in use (R27); a slot whose kind is unused has no entry. -/
inductive LoadKind where
  | floorHeater
  | roofHeater
  | curtain
  | compressor
  | fan
  | cabBlower
  | film
  | damper
  deriving DecidableEq, Repr

/-- The power pools (R27). -/
inductive Pool where
  | line
  | battery
  deriving DecidableEq, Repr

/-- The section field of a load entry: a body section, or CAB for a damper (R27). -/
inductive LoadPlace where
  | body (part : BodySection)
  | cab
  deriving DecidableEq, Repr

/-- The states of a load slot (R28). -/
inductive SlotState where
  | unbound
  | ok
  | faulted
  deriving DecidableEq, Repr

/-- The states of a compressor record (R36). -/
inductive CompressorState where
  | offLocked
  | offReady
  | runMin
  | run
  deriving DecidableEq, Repr

/-- The two lengths of restart lock (R36). -/
inductive LockLength where
  | short
  | long
  deriving DecidableEq, Repr

/-- The states a door frame reports (R77). `opened` is OPEN. -/
inductive DoorState where
  | closed
  | opening
  | opened
  | closing
  | ramp
  deriving DecidableEq, Repr

/-- The panel states (R97). -/
inductive PanelState where
  | off
  | watch
  | demist
  | defrost
  | runOn
  deriving DecidableEq, Repr

/-- The state RUN_ON was entered from (R92). -/
inductive RunOnOrigin where
  | demist
  | defrost
  deriving DecidableEq, Repr

/-- The override kinds (R108). -/
inductive OverrideKind where
  | setpointOffset
  | fanLevel
  | recirc
  | defrostNow
  | climateOff
  | curtainOff
  | cabHeatMax
  deriving DecidableEq, Repr

/-- The override targets (R193). -/
inductive Target where
  | zone (z : Fin 8)
  | allSaloon
  | body (part : BodySection)
  | cab
  | panel (p : Fin 4)
  | door (d : Fin 8)
  | allDoors
  deriving DecidableEq, Repr

/-- Who set an override (R108). -/
inductive Origin where
  | console
  | depot
  deriving DecidableEq, Repr

/-- The override results (R109). -/
inductive OverrideResult where
  | none
  | accepted
  | replaced
  | cancelled
  | notFound
  | refusedFull
  | refusedInvalid
  deriving DecidableEq, Repr

/-- The quantities of a channel in use (R127). -/
inductive Quantity where
  | air
  | duct
  | glass
  | humidity
  | outdoor
  deriving DecidableEq, Repr

/-- The channel qualities (R128). -/
inductive Quality where
  | absent
  | fresh
  | stale
  | lost
  | implausible
  | forced
  deriving DecidableEq, Repr

/-- The dispositions of a stream entry (R149). `guarded` is GUARD. -/
inductive Disposition where
  | pass
  | take
  | takePass
  | guarded
  | drop
  deriving DecidableEq, Repr

/-- The roles of a stream entry (R149). -/
inductive Role where
  | none
  | channel (c : Fin 48)
  | door (d : Fin 8)
  | supply
  | console
  | echo (s : Fin 32)
  deriving DecidableEq, Repr

/-- The 24 notice sources, in the order of their numbers (R162). -/
inductive Source where
  | supplyDewired
  | supplyReduced
  | plantSilent
  | zoneFallback
  | zoneSaturated
  | priorityLimited
  | glazingActive
  | doorLongOpen
  | outdoorUnknown
  | serviceMode
  | manualActive
  | compressorHeld
  | channelLost
  | channelImplausible
  | doorStateLost
  | actuatorFault
  | supplyStale
  | overrideRefused
  | overrideExpired
  | portOverrun
  | frameError
  | loadBroken
  | faultRecorded
  | test
  deriving DecidableEq, Repr

/-- The two notice destinations (R166). -/
inductive Destination where
  | cab
  | depot
  deriving DecidableEq, Repr

/-- The fault codes (R174). -/
inductive FaultCode where
  | tableRange
  | tableInconsistent
  | storeCheck
  | actuatorFault
  | doorStateInvalid
  | channelImplausible
  | supplyStale
  deriving DecidableEq, Repr

/-- The results of a management request (R176). -/
inductive Result where
  | ok
  | busy
  | refusedAccess
  | badSegment
  | badRange
  | badState
  | badOpcode
  | refusedBudget
  deriving DecidableEq, Repr

/-- The reset causes (R189). -/
inductive ResetCause where
  | none
  | powerOn
  | line
  | restart
  deriving DecidableEq, Repr

/-- The modes of a load session (R181). -/
inductive SessionMode where
  | wrap
  | stop
  deriving DecidableEq, Repr

/-- A segment number (R179). -/
abbrev SegmentId := Fin 11

namespace SegmentId
abbrev streams : SegmentId := 0
abbrev channels : SegmentId := 1
abbrev zones : SegmentId := 2
abbrev schedule : SegmentId := 3
abbrev loads : SegmentId := 4
abbrev doors : SegmentId := 5
abbrev glazing : SegmentId := 6
abbrev dewpoint : SegmentId := 7
abbrev supply : SegmentId := 8
abbrev notice : SegmentId := 9
abbrev port : SegmentId := 10
end SegmentId

/-- The place of a section's record in a table of three. -/
abbrev sectionIndex : BodySection → Fin 3
  | .a => 0
  | .b => 1
  | .c => 2

/-! ## Adopted entries -/

/-- An entry of the stream table (R149). -/
structure StreamEntry where
  side : Port
  stream : StreamId
  disposition : Disposition
  role : Role
  freshness : Nat
  guardSlot : Fin 32
  deriving DecidableEq, Repr

/-- An adopted CHANNELS entry (R127); an absent quantity is unused. -/
structure ChannelEntry where
  quantity : Option Quantity
  gain : Nat
  offset : Int
  low : Int
  high : Int
  maxStep : Nat
  grace : Nat
  deriving DecidableEq, Repr

/-- A member of a zone: a channel number and a weight (R3). -/
structure Member where
  channel : Nat
  weight : Nat
  deriving DecidableEq, Repr

/-- A ladder entry: a load slot and a share (R3). -/
structure LadderEntry where
  slot : Fin 32
  share : Nat
  deriving DecidableEq, Repr

/-- An adopted ZONES entry (R3). -/
structure ZoneEntry where
  enabled : Bool
  part : BodySection
  members : List Member
  setMin : Int
  setMax : Int
  kp : Nat
  ki : Nat
  kf : Nat
  tbal : Int
  kg : Nat
  rounding : Rounding
  cool : Bool
  bankMargin : Nat
  fallbackBias : Nat
  passPeriod : Nat
  ladder : List LadderEntry
  deriving DecidableEq, Repr

/-- A band of the schedule list (R7). -/
structure Band where
  bound : Int
  saloon : Int
  cab : Int
  freshAir : Nat
  deriving DecidableEq, Repr

/-- An adopted LOADS entry of a slot in use (R27); `stages = 0` is continuous. -/
structure LoadEntry where
  kind : LoadKind
  pool : Pool
  rated : Nat
  stages : Nat
  minLevel : Nat
  commandStream : StreamId
  echoStream : Option StreamId
  refresh : Nat
  place : LoadPlace
  deriving DecidableEq, Repr

/-- An adopted DOORS entry (R76). Limits and hold-over are in seconds. -/
structure DoorEntry where
  zone : Option (Fin 8)
  curtain : Option (Fin 32)
  decay : Nat
  t1 : Int
  t2 : Int
  t3 : Int
  longOpen : Nat
  rampLimit : Nat
  holdOver : Nat
  deriving DecidableEq, Repr

/-- An adopted GLAZING entry (R90). Times are in seconds. -/
structure PanelEntry where
  enabled : Bool
  glass : Option (Fin 48)
  humidity : Option (Fin 48)
  film : Option (Fin 32)
  marginOn : Int
  marginOff : Int
  escalate : Nat
  runOn : Nat
  k : Nat
  deriving DecidableEq, Repr

/-- The adopted SUPPLY entry (R54). The gap limit is in units of 100 ms, the compressor durations
in seconds. -/
structure SupplyEntry where
  sag : Nat
  gap : Nat
  gapLimit : Nat
  climateMax : Nat
  battery : Nat
  outdoorFallback : Int
  minimumRun : Nat
  shortLock : Nat
  longLock : Nat
  deriving DecidableEq, Repr

/-- The adopted NOTICE entry (R172). -/
structure NoticeEntry where
  cabMask : BitVec 24
  depotMask : BitVec 24
  storeUnmasked : Bool
  deriving DecidableEq, Repr

/-- The adopted PORT entry: whether each default disposition is PASS (R151). -/
structure PortEntry where
  vehiclePasses : Bool
  plantPasses : Bool
  deriving DecidableEq, Repr

/-! ## Records of the blocks -/

/-- The pins: supply present, reset input held, node straps (section 3, R188). -/
structure Pins where
  supplyUp : Bool
  resetHeld : Bool
  straps : BitVec 3
  deriving DecidableEq, Repr

/-- A frame of the vehicle transmit queue; the reply to RESTART is marked (R157). -/
structure VehicleFrame where
  frame : Frame
  restartReply : Bool
  deriving DecidableEq, Repr

/-- A frame of the plant forward queue, with the guard mark and slot of a guarded frame (R159). -/
structure ForwardFrame where
  frame : Frame
  guardSlot : Option (Fin 32)
  deriving DecidableEq, Repr

/-- A frame of the command set (R160). -/
structure WaitingCommand where
  slot : Fin 32
  frame : Frame
  deriving DecidableEq, Repr

/-- The ports: node number, queues, transmissions in progress and plant silence (R145 to R147,
R157 to R161). -/
structure FramePath where
  node : BitVec 3
  vehicleRx : List Frame
  plantRx : List Frame
  vehicleTx : Option VehicleFrame
  vehicleQueue : List VehicleFrame
  plantTx : Option Frame
  forwardQueue : List ForwardFrame
  commandSet : List WaitingCommand
  runCount : Nat
  plantSilence : Timer
  plantSilent : Bool
  deriving DecidableEq, Repr

/-- An adopted stream entry with its last accepted sequence and freshness timer (R153, R154). -/
structure StreamRec where
  entry : StreamEntry
  lastSequence : Option Byte
  freshness : Timer
  deriving DecidableEq, Repr

/-- An event the classifier has handed to a block, which the block takes as an event of its own
(R152, R154), with the port whose series it belongs to; an expiry belongs to none. -/
structure Handed where
  port : Option Port
  event : Instr
  deriving DecidableEq, Repr

/-- The stream classifier (R149 to R155). -/
structure Classifier where
  table : List StreamRec
  port : PortEntry
  handed : List Handed
  deriving DecidableEq, Repr

/-- A channel record (R128). -/
structure ChannelRec where
  entry : ChannelEntry
  quality : Quality
  held : Option Int
  forced : Option Int
  slewing : Bool
  plausibleCount : Nat
  staleTimer : Timer
  deriving DecidableEq, Repr

/-- The sample unit: 48 channel records, the outdoor value and its existed flag (R128, R139). -/
structure SampleUnit where
  channels : Table 48 ChannelRec
  outdoor : Int
  outdoorUnknown : Bool
  outdoorExisted : Bool
  deriving DecidableEq, Repr

/-- A zone record (R4), with the adopted entry and whether new contents are pending for it (R24). -/
structure ZoneRec where
  entry : ZoneEntry
  adoptPending : Bool
  mode : ZoneMode
  tm : Option Int
  ts : Int
  e : Option Int
  p : Option Int
  f : Int
  g : Int
  i : Int
  d : Int
  lastD : Int
  preset : Bool
  doorHold : Bool
  heatLimited : Bool
  coolLimited : Bool
  banking : Bool
  bankRelease : Bool
  bankTimer : Timer
  boost : Bool
  floor : Bool
  heatMax : Bool
  climateOff : Bool
  satCount : Nat
  passTimer : Timer
  deriving DecidableEq, Repr

/-- The zone regulator: 8 zone records, the schedule list and the active band (R4, R7). -/
structure ZoneRegulator where
  zones : Table 8 ZoneRec
  schedule : List Band
  schedulePending : Bool
  activeBand : Option Nat
  deriving DecidableEq, Repr

/-- A heat ladder contribution: the zone that asks it and its power (R30, R32). -/
structure LadderAsk where
  zone : Fin 8
  power : Nat
  deriving DecidableEq, Repr

/-- A glazing contribution, in the form asked (R29, R51, R102). -/
inductive GlazingAsk where
  | level (percent : Nat)
  | stage (k : Nat)
  deriving DecidableEq, Repr

/-- The contributions to a slot, one for each requester that can reach it (R28, R30). The powers are
above 0: a contribution of power 0 is held as absent (R29). -/
structure Asks where
  ladder : Option LadderAsk
  cooling : Option Nat
  fan : Option Nat
  blower : Option Nat
  curtain : Table 8 (Option Nat)
  glazing : Table 4 (Option GlazingAsk)
  manual : Option Nat
  deriving DecidableEq, Repr

/-- A slot record (R28), with the adopted entry and the owning ladder entry (R33). An unused entry
is absent. -/
structure SlotRec where
  entry : Option LoadEntry
  state : SlotState
  manual : Bool
  commanded : Nat
  echoed : Option Nat
  mismatch : Nat
  sequence : Byte
  refreshTimer : Timer
  owner : Option (Fin 8 × Nat)
  asks : Asks
  deriving DecidableEq, Repr

/-- A compressor record (R36): the lock that runs in OFF_LOCKED, and the minimum run timer. -/
structure CompressorRec where
  state : CompressorState
  lock : LockLength
  lockTimer : Timer
  minRunTimer : Timer
  deriving DecidableEq, Repr

/-- A section's cooling demand C, its cooling call, and its compressor record, absent where the section has
had no compressor since the reset (R34, R36, R51, log entry 42). -/
structure SectionRec where
  demand : Nat
  call : Bool
  compressor : Option CompressorRec
  deriving DecidableEq, Repr

/-- The ladder and actuator unit (R28): slots, sections, the start-up hold, and whether LOADS
contents are pending (R51). -/
structure ActuatorUnit where
  slots : Table 32 SlotRec
  sections : Table 3 SectionRec
  startHold : Bool
  loadsPending : Bool
  deriving DecidableEq, Repr

/-- A row of the request and grant tables (R65). The row's manual and pool fields stand in the slot
record, which is their one home. -/
structure GrantRow where
  request : Nat
  cls : Fin 4
  grant : Nat
  limited : Bool
  deriving DecidableEq, Repr

/-- The supply and budget unit (R53, R65). -/
structure BudgetUnit where
  entry : SupplyEntry
  state : SupplyState
  heldVoltage : Nat
  heldAllowance : Nat
  heldSurplus : Nat
  banking : Bool
  ramp : Option Nat
  settleTimer : Timer
  gapTimer : Timer
  lineBudget : Nat
  batteryBudget : Nat
  periodTimer : Timer
  rows : Table 32 GrantRow
  deriving DecidableEq, Repr

/-- A door record (R77), with the adopted entry and whether new contents are pending (R89). -/
structure DoorRec where
  entry : DoorEntry
  adoptPending : Bool
  recorded : DoorState
  stale : Bool
  openTime : Nat
  rampSeen : Bool
  longOpen : Bool
  dose : Nat
  holding : Bool
  stepTimer : Timer
  deriving DecidableEq, Repr

/-- The door unit: 8 door records and a hold-over timer for each zone (R77). -/
structure DoorUnit where
  doors : Table 8 DoorRec
  holdOver : Table 8 Timer
  deriving DecidableEq, Repr

/-- A panel record (R92), with the adopted entry and whether new contents are pending (R106). The
panel's contributions stand in the slot records (`Asks.glazing`). -/
structure PanelRec where
  entry : PanelEntry
  adoptPending : Bool
  state : PanelState
  origin : Option RunOnOrigin
  evalTimer : Timer
  escalateTimer : Timer
  runOnTimer : Timer
  deriving DecidableEq, Repr

/-- The glazing unit: 4 panel records and the adopted depression table (R91, R92). -/
structure GlazingUnit where
  panels : Table 4 PanelRec
  dew : Table 11 Nat
  dewPending : Bool
  deriving DecidableEq, Repr

/-- An override entry (R108). -/
structure OverrideEntry where
  kind : OverrideKind
  target : Target
  value : Int
  origin : Origin
  expiry : Timer
  deriving DecidableEq, Repr

/-- The override unit (R109). The list's first entry is the oldest. -/
structure OverrideUnit where
  entries : List OverrideEntry
  revision : Byte
  lastResult : OverrideResult
  statusSequence : Byte
  statusTimer : Timer
  deriving DecidableEq, Repr

/-- A destination: whether it is RAISED, and its notice count (R166). -/
structure DestinationRec where
  raised : Bool
  count : Byte
  deriving DecidableEq, Repr

/-- A holding fault record (R174). -/
structure FaultRec where
  code : FaultCode
  index : Nat
  time : PartTime
  supply : SupplyState
  further : Bool
  deriving DecidableEq, Repr

/-- The notice unit (R166). Source `k` is bit `k` of the raws, the statuses and the masks. An empty
fault record is absent. -/
structure NoticeUnit where
  entry : NoticeEntry
  raws : BitVec 24
  statuses : BitVec 24
  cab : DestinationRec
  depot : DestinationRec
  record : Option FaultRec
  deriving DecidableEq, Repr

/-- The contents of a segment, entry by entry, as bytes (R179). -/
abbrev Segment := List (List Byte)

/-- The contents of the eleven segments. -/
abbrev Contents := Table 11 Segment

/-- An open load session (R181). -/
structure Session where
  segment : SegmentId
  mode : SessionMode
  cursor : Nat
  expected : Nat
  buffer : List Byte
  completed : Nat
  timer : Timer
  deriving DecidableEq, Repr

/-- The nonvolatile copy: nothing ever stored, a copy whose check holds, or one whose check fails
(R184, R188). -/
inductive Stored where
  | never
  | whole (contents : Contents)
  | broken
  deriving DecidableEq, Repr

/-- A running store operation: the contents taken, the sequence its reply will carry, and the part
time by which it completes (R184). -/
structure StoreOp where
  contents : Contents
  sequence : Byte
  limit : PartTime
  deriving DecidableEq, Repr

/-- Service mode while it is on (R185). -/
structure Service where
  allowClears : Bool
  timer : Timer
  deriving DecidableEq, Repr

/-- The management agent (R177). -/
structure Agent where
  contents : Contents
  modified : BitVec 11
  session : Option Session
  stored : Stored
  storeOp : Option StoreOp
  service : Option Service
  restartPending : Bool
  cause : ResetCause
  deriving DecidableEq, Repr

/-- The controller, with the commands waiting for it, oldest first. -/
structure State where
  pending : List Instr
  pins : Pins
  partTime : PartTime
  path : FramePath
  classifier : Classifier
  sample : SampleUnit
  zone : ZoneRegulator
  actuator : ActuatorUnit
  budget : BudgetUnit
  door : DoorUnit
  glazing : GlazingUnit
  override : OverrideUnit
  notice : NoticeUnit
  agent : Agent
  deriving DecidableEq, Repr

/-- The reasons a step stops with a fault. There is none: the manual gives every event an effect, or
says that it changes nothing. Safe: no run ends early. -/
inductive Fault where
  deriving DecidableEq, Repr

/-- The reasons a command is refused. -/
inductive Refusal where
  /-- Raised by no command of this model: an arm of `exec` that has no meaning yet would raise it.
  Safe: it proves nothing of the command. -/
  | notModelled (mnemonic : String)
  deriving DecidableEq, Repr

/-! ## Built-in defaults and reset values -/

/-- The built-in contents (R188, log entry 4): every entry unused or disabled, PORT, SUPPLY, NOTICE
and DEWPOINT as R151, R54, R172 and R91 give them. -/
def defaultContents : Contents :=
  ⟨[ List.replicate 128 (List.replicate 8 0),
     List.replicate 48 (List.replicate 12 0),
     List.replicate 8 ([0, 0, 0xFF, 0xFF, 0xFF, 0xFF] ++ List.replicate 18 0),
     List.replicate 8 (List.replicate 8 0),
     List.replicate 32 (List.replicate 12 0),
     List.replicate 8 [0x2F, 0xFF, 40, 0, 8, 14, 24, 60],
     List.replicate 4 [0, 0xFF, 0xFF, 0xFF, 0x00, 0xC8, 0x01, 0xF4, 24, 12, 0, 64],
     [[0x17, 0x70], [0x0C, 0xBC], [0x09, 0x3F], [0x07, 0x14], [0x05, 0x7A], [0x04, 0x32],
      [0x03, 0x20], [0x02, 0x34], [0x01, 0x64], [0x00, 0xA9], [0x00, 0x00]],
     [[0x01, 0xF4, 0x00, 0xFA, 30, 0x01, 0xC2, 12, 0, 0, 0, 60, 30, 0, 180, 0]],
     [[0, 0, 0, 0xFF, 0xFF, 0xFF, 1, 0]],
     [[2, 1, 0, 0]] ], rfl⟩

/-- The adopted form of a default CHANNELS entry: unused (R127). -/
def defaultChannelEntry : ChannelEntry :=
  { quantity := none, gain := 0, offset := 0, low := 0, high := 0, maxStep := 0, grace := 0 }

/-- The adopted form of a default ZONES entry: disabled (R3). -/
def defaultZoneEntry : ZoneEntry :=
  { enabled := false, part := .a, members := [], setMin := 1200, setMax := 1200, kp := 0, ki := 0,
    kf := 0, tbal := 0, kg := 0, rounding := .chop, cool := false, bankMargin := 0,
    fallbackBias := 0, passPeriod := 10, ladder := [] }

/-- The adopted form of a default DOORS entry: unused (R76). -/
def defaultDoorEntry : DoorEntry :=
  { zone := none, curtain := none, decay := 40, t1 := 0, t2 := 800, t3 := 1400, longOpen := 240,
    rampLimit := 600, holdOver := 10 }

/-- The adopted form of a default GLAZING entry: disabled (R90). -/
def defaultPanelEntry : PanelEntry :=
  { enabled := false, glass := none, humidity := none, film := none, marginOn := 200,
    marginOff := 500, escalate := 120, runOn := 60, k := 64 }

/-- The built-in default SUPPLY entry (R54). -/
def defaultSupplyEntry : SupplyEntry :=
  { sag := 500, gap := 250, gapLimit := 30, climateMax := 450, battery := 12,
    outdoorFallback := 0, minimumRun := 60, shortLock := 30, longLock := 180 }

/-- The built-in default NOTICE entry (R172). -/
def defaultNoticeEntry : NoticeEntry :=
  { cabMask := 0, depotMask := BitVec.allOnes 24, storeUnmasked := true }

/-- The built-in default depression table (R91). -/
def defaultDew : Table 11 Nat :=
  ⟨[6000, 3260, 2367, 1812, 1402, 1074, 800, 564, 356, 169, 0], rfl⟩

/-- A channel record after any reset (R128). -/
def resetChannel (entry : ChannelEntry) : ChannelRec :=
  { entry, quality := .absent, held := none, forced := none, slewing := false, plausibleCount := 0,
    staleTimer := none }

/-- The record of zone `z` after any reset (R4, R5). -/
def resetZone (entry : ZoneEntry) (z : Fin 8) : ZoneRec :=
  { entry, adoptPending := false, mode := if entry.enabled then .regulate else .off, tm := none,
    ts := 2000, e := none, p := none, f := 0, g := 0, i := 0, d := 0, lastD := 0, preset := false,
    doorHold := false, heatLimited := false, coolLimited := false, banking := false,
    bankRelease := false, bankTimer := none, boost := false, floor := false, heatMax := false,
    climateOff := false, satCount := 0, passTimer := some (BitVec.ofNat 32 (3000 + 100 * z.val)) }

/-- No contribution present (R28). -/
def noAsks : Asks :=
  { ladder := none, cooling := none, fan := none, blower := none, curtain := Table.fill 8 none,
    glazing := Table.fill 4 none, manual := none }

/-- A slot record after any reset, before the reset command is placed (R28). -/
def resetSlot (entry : Option LoadEntry) (owner : Option (Fin 8 × Nat)) : SlotRec :=
  { entry, state := if entry.isSome then .ok else .unbound, manual := false, commanded := 0,
    echoed := none, mismatch := 0, sequence := 0, refreshTimer := none, owner, asks := noAsks }

/-- A row of the request and grant tables after any reset (R65). -/
def resetRow : GrantRow := { request := 0, cls := 3, grant := 0, limited := false }

/-- The supply and budget unit after any reset (R53, R65). -/
def resetBudget (entry : SupplyEntry) : BudgetUnit :=
  { entry, state := .start, heldVoltage := 0, heldAllowance := 0, heldSurplus := 0,
    banking := false, ramp := none, settleTimer := none, gapTimer := none, lineBudget := 0,
    batteryBudget := entry.battery, periodTimer := some 250, rows := Table.fill 32 resetRow }

/-- A door record after any reset (R77). -/
def resetDoor (entry : DoorEntry) : DoorRec :=
  { entry, adoptPending := false, recorded := .closed, stale := false, openTime := 0,
    rampSeen := false, longOpen := false, dose := 0, holding := false, stepTimer := some 500 }

/-- The record of panel `p` after any reset (R92). -/
def resetPanel (entry : PanelEntry) (p : Fin 4) : PanelRec :=
  { entry, adoptPending := false, state := if entry.enabled then .watch else .off, origin := none,
    evalTimer := some (BitVec.ofNat 32 (3500 + 100 * p.val)), escalateTimer := none,
    runOnTimer := none }

/-- The override unit after any reset (R109). -/
def resetOverride : OverrideUnit :=
  { entries := [], revision := 0, lastResult := .none, statusSequence := 0,
    statusTimer := some 5000 }

/-- The notice unit after any reset, before the notices of the reset event (R166). -/
def resetNotice (entry : NoticeEntry) (record : Option FaultRec) : NoticeUnit :=
  { entry, raws := 0, statuses := 0, cab := { raised := false, count := 0 },
    depot := { raised := false, count := 0 }, record }

/-- The frame path after any reset, before the frames of the reset event (R147). -/
def resetPath (node : BitVec 3) : FramePath :=
  { node, vehicleRx := [], plantRx := [], vehicleTx := none, vehicleQueue := [], plantTx := none,
    forwardQueue := [], commandSet := [], runCount := 0, plantSilence := some 1000,
    plantSilent := false }

/-- The NOTICE frame that the reset event of `State.reset` sends to DEPOT: OUTDOOR_UNKNOWN and
FAULT_RECORDED, in START at part time 0 (R166, R167, R195). -/
def resetNoticeFrame : Frame :=
  { stream := 0xE18, kind := .notice, sequence := 1,
    payload := [0x00, 0x01, 0x40, 0x00, 0x01, 0x40, 0, 0, 0, 0, 0], check := 0x1d38, spare := 0 }

/-- The machine right after a POWER_ON reset with nothing ever stored (R188): the built-in defaults
are adopted, STORE_CHECK is in the fault record, the DEPOT destination has been told by
OUTDOOR_UNKNOWN and FAULT_RECORDED, and its frame is in transmission. The node straps read 0
(log entry 5). -/
def State.reset : State where
  pending := []
  pins := { supplyUp := true, resetHeld := false, straps := 0 }
  partTime := 0
  path :=
    { resetPath 0 with
      vehicleTx := some { frame := resetNoticeFrame, restartReply := false } }
  classifier :=
    { table := []
      port := { vehiclePasses := false, plantPasses := true }
      handed := [] }
  sample :=
    { channels := Table.fill 48 (resetChannel defaultChannelEntry)
      outdoor := 0
      outdoorUnknown := true
      outdoorExisted := false }
  zone :=
    { zones := Table.tabulate (resetZone defaultZoneEntry)
      schedule := []
      schedulePending := false
      activeBand := none }
  actuator :=
    { slots := Table.fill 32 (resetSlot none none)
      sections := Table.fill 3 { demand := 0, call := false, compressor := none }
      startHold := true
      loadsPending := false }
  budget := resetBudget defaultSupplyEntry
  door :=
    { doors := Table.fill 8 (resetDoor defaultDoorEntry)
      holdOver := Table.fill 8 none }
  glazing :=
    { panels := Table.tabulate (resetPanel defaultPanelEntry)
      dew := defaultDew
      dewPending := false }
  override := resetOverride
  notice :=
    { entry := defaultNoticeEntry
      raws := 0x400100
      statuses := 0x400100
      cab := { raised := false, count := 0 }
      depot := { raised := true, count := 1 }
      record := some
        { code := .storeCheck, index := 0, time := 0, supply := .start, further := false } }
  agent :=
    { contents := defaultContents
      modified := BitVec.allOnes 11
      session := none
      stored := .never
      storeOp := none
      service := none
      restartPending := false
      cause := .powerOn }

end Sys2Proof.Machine
end

