-- ==== Sys2Proof/Machine/Operands.lean ====
section
/-!
DEFINITION. The forms operands take: the rounding words (R1), limiting, the fields of a run of bytes
(R191), and the coded kinds and targets of console frames and OVERRIDE requests (R110, R193).
-/

namespace Sys2Proof.Machine

/-! ## Rounding and limiting -/

/-- Division toward zero (R1). -/
def divTowardZero (n d : Int) : Int := n.tdiv d

/-- Division to the greatest integer not above the exact value (R1), for `d > 0`. -/
def divFloor (n d : Int) : Int := n.fdiv d

/-- Division to the least integer not below the exact value (R1), for `d > 0`. -/
def divCeil (n d : Int) : Int := -((-n).fdiv d)

/-- Division to the closer integer, halves away from zero (R1), for `d > 0`. -/
def divNearest (n d : Int) : Int :=
  if 0 ≤ n then (2 * n + d).fdiv (2 * d) else -((2 * (-n) + d).fdiv (2 * d))

/-- A division rounded by a zone's rounding mode (section 4.4). -/
def Rounding.div : Rounding → Int → Int → Int
  | .chop => divTowardZero
  | .nearest => divNearest

/-- Division of counts rounded up (R1, ceiling), for `d > 0`. -/
def ceilDiv (n d : Nat) : Nat := (n + d - 1) / d

/-- `x` limited to `lo..hi` (section 4.4). -/
def clamp (x lo hi : Int) : Int := max lo (min x hi)

/-- A count limited to the nearer end of `lo..hi`. -/
def limitNat (x lo hi : Nat) : Nat := max lo (min x hi)

/-! ## Fields of a run of bytes -/

/-- Byte `k`; a missing byte reads 0 (R193). -/
def byteAt (bs : List Byte) (k : Nat) : Byte := bs.getD k 0

/-- The unsigned byte field at `k`. -/
def u8At (bs : List Byte) (k : Nat) : Nat := (byteAt bs k).toNat

/-- The signed byte field at `k`. -/
def s8At (bs : List Byte) (k : Nat) : Int := (byteAt bs k).toInt

/-- The two bytes from `k`, most significant first (R191). -/
def word16At (bs : List Byte) (k : Nat) : BitVec 16 := byteAt bs k ++ byteAt bs (k + 1)

/-- The unsigned two-byte field at `k`. -/
def u16At (bs : List Byte) (k : Nat) : Nat := (word16At bs k).toNat

/-- The signed two-byte field at `k`. -/
def s16At (bs : List Byte) (k : Nat) : Int := (word16At bs k).toInt

/-- A flag set of three bytes from `k`: item `i` is bit `i` of the result (R191). -/
def flags24At (bs : List Byte) (k : Nat) : BitVec 24 :=
  byteAt bs (k + 2) ++ byteAt bs (k + 1) ++ byteAt bs k

/-- A two-byte field, most significant byte first. -/
def bytes16 (x : BitVec 16) : List Byte := [x.extractLsb' 8 8, x.extractLsb' 0 8]

/-- A four-byte field, most significant byte first. -/
def bytes32 (x : BitVec 32) : List Byte :=
  [x.extractLsb' 24 8, x.extractLsb' 16 8, x.extractLsb' 8 8, x.extractLsb' 0 8]

/-- A flag set of three bytes (R191). -/
def flagBytes24 (x : BitVec 24) : List Byte :=
  [x.extractLsb' 0 8, x.extractLsb' 8 8, x.extractLsb' 16 8]

/-- A byte field holding a count. -/
def byteOf (n : Nat) : Byte := BitVec.ofNat 8 n

/-- A byte field holding a flag. -/
def byteOfBool (b : Bool) : Byte := if b then 1 else 0

/-! ## Override kinds and targets -/

/-- The kind a code stands for; codes 7..255 are undefined (R193). -/
def overrideKindOf (code : Byte) : Option OverrideKind :=
  match code.toNat with
  | 0 => some .setpointOffset
  | 1 => some .fanLevel
  | 2 => some .recirc
  | 3 => some .defrostNow
  | 4 => some .climateOff
  | 5 => some .curtainOff
  | 6 => some .cabHeatMax
  | _ => none

/-- The code of a kind (R193). -/
def OverrideKind.code : OverrideKind → Byte
  | .setpointOffset => 0
  | .fanLevel => 1
  | .recirc => 2
  | .defrostNow => 3
  | .climateOff => 4
  | .curtainOff => 5
  | .cabHeatMax => 6

/-- The target a code stands for (R193). -/
def targetOf (code : Byte) : Option Target :=
  match code.toNat with
  | 0x08 => some .allSaloon
  | 0x10 => some (.body .a)
  | 0x11 => some (.body .b)
  | 0x12 => some (.body .c)
  | 0x13 => some .cab
  | 0x38 => some .allDoors
  | n =>
    if h : n < 8 then some (.zone ⟨n, h⟩)
    else if h : 0x20 ≤ n ∧ n < 0x24 then some (.panel ⟨n - 0x20, by omega⟩)
    else if h : 0x30 ≤ n ∧ n < 0x38 then some (.door ⟨n - 0x30, by omega⟩)
    else none

/-- The code of a target (R193). -/
def Target.code : Target → Byte
  | .zone z => byteOf z.val
  | .allSaloon => 0x08
  | .body .a => 0x10
  | .body .b => 0x11
  | .body .c => 0x12
  | .cab => 0x13
  | .panel p => byteOf (0x20 + p.val)
  | .door d => byteOf (0x30 + d.val)
  | .allDoors => 0x38

/-- The targets a kind admits (R110). -/
def OverrideKind.admits : OverrideKind → Target → Bool
  | .setpointOffset, .zone _ => true
  | .setpointOffset, .allSaloon => true
  | .fanLevel, .body _ => true
  | .fanLevel, .cab => true
  | .recirc, .body _ => true
  | .recirc, .cab => true
  | .defrostNow, .panel _ => true
  | .climateOff, .allSaloon => true
  | .curtainOff, .door _ => true
  | .curtainOff, .allDoors => true
  | .cabHeatMax, .cab => true
  | _, _ => false

/-- The default and the maximum duration in minutes of an entry, absent for the kinds and targets
without expiry (R110). -/
def overrideMinutes : OverrideKind → Target → Option (Nat × Nat)
  | .setpointOffset, .zone z => if z = 0 then none else some (60, 240)
  | .setpointOffset, _ => some (60, 240)
  | .fanLevel, _ => some (30, 120)
  | .recirc, _ => some (10, 10)
  | .defrostNow, _ => some (15, 15)
  | .climateOff, _ => none
  | .curtainOff, _ => some (60, 480)
  | .cabHeatMax, _ => some (20, 30)

/-- The lifetime in minutes of an accepted entry: 0 asks for the default, and the maximum limits
(R110). -/
def overrideLifetime (kind : OverrideKind) (target : Target) (asked : Nat) : Option Nat :=
  match overrideMinutes kind target with
  | none => none
  | some (dflt, most) => some (if asked = 0 then dflt else min asked most)

/-- The value of an accepted entry, limited to the range of its kind (R110). -/
def overrideValue (kind : OverrideKind) (value : Int) : Int :=
  match kind with
  | .setpointOffset => clamp value (-300) 300
  | .fanLevel => clamp value 0 100
  | .recirc => 0
  | .defrostNow => 0
  | .climateOff => 0
  | .curtainOff => 0
  | .cabHeatMax => 0

end Sys2Proof.Machine
end

