-- ==== Sys2Proof/Machine/Frames.lean ====
section
/-!
DEFINITION. Link frames: the check (R143), the byte layout (R192), the test of a received frame
(R144), and the coded fields of the frames the controller forms (R194, R195).
-/

namespace Sys2Proof.Machine

/-- One data bit taken into the check register (R143). -/
def checkBit (reg : BitVec 16) (bit : Bool) : BitVec 16 :=
  let shifted := reg <<< 1
  if reg.msb != bit then shifted ^^^ 0x1021 else shifted

/-- One byte taken into the check register, most significant bit first (R143). -/
def checkByte (reg : BitVec 16) (b : Byte) : BitVec 16 :=
  [7, 6, 5, 4, 3, 2, 1, 0].foldl (fun r k => checkBit r (b.getLsbD k)) reg

/-- The check over a run of bytes (R143). -/
def checkOf (bs : List Byte) : BitVec 16 := bs.foldl checkByte 0xFFFF

/-- The code of a kind (R143). -/
def kindCode : FrameKind → BitVec 3
  | .sample => 0
  | .state => 1
  | .command => 2
  | .manage => 3
  | .reply => 4
  | .notice => 5

/-- The kind a code stands for; 6 and 7 are invalid (R143). -/
def kindOf (code : BitVec 3) : Option FrameKind :=
  match code.toNat with
  | 0 => some .sample
  | 1 => some .state
  | 2 => some .command
  | 3 => some .manage
  | 4 => some .reply
  | 5 => some .notice
  | _ => none

/-- The four header bytes of a frame (R192). -/
def headerBytes (f : Frame) : List Byte :=
  [ f.stream.extractLsb' 4 8,
    f.stream.extractLsb' 0 4 ++ kindCode f.kind ++ f.spare.extractLsb' 4 1,
    f.sequence,
    BitVec.ofNat 4 f.payload.length ++ f.spare.extractLsb' 0 4 ]

/-- The bytes of a frame as they are sent (R192). -/
def frameBytes (f : Frame) : List Byte := headerBytes f ++ f.payload ++ bytes16 f.check

/-- A frame the controller forms, with its check (R143). -/
def makeFrame (stream : StreamId) (kind : FrameKind) (sequence : Byte) (payload : List Byte) :
    Frame :=
  let f : Frame := { stream, kind, sequence, payload, check := 0, spare := 0 }
  { f with check := checkOf (headerBytes f ++ payload) }

/-- The frame that received bytes hold, absent when they are malformed (R144, log entry 15). -/
def parseFrame (bytes : List Byte) : Option Frame :=
  let size := bytes.length - 6
  let payload := (bytes.drop 4).take size
  let b0 := byteAt bytes 0
  let b1 := byteAt bytes 1
  let b3 := byteAt bytes 3
  let check := word16At bytes (4 + size)
  let length := (b3.extractLsb' 4 4).toNat
  match kindOf (b1.extractLsb' 1 3) with
  | none => none
  | some kind =>
    if bytes.length < 6 ∨ 14 < length ∨ length ≠ size ∨ checkOf (bytes.take (4 + size)) ≠ check
    then none
    else some
      { stream := b0 ++ b1.extractLsb' 4 4, kind, sequence := byteAt bytes 2, payload, check,
        spare := b1.extractLsb' 0 1 ++ b3.extractLsb' 0 4 }

/-! ## The controller's own streams (R148) -/

/-- Stream `base + n` for node number `n`. -/
def ownStream (base : Nat) (node : BitVec 3) : StreamId := BitVec.ofNat 12 (base + node.toNat)

/-- The stream of management requests. -/
def manageStream : BitVec 3 → StreamId := ownStream 0xE00

/-- The stream of replies. -/
def replyStream : BitVec 3 → StreamId := ownStream 0xE08

/-- The stream of a destination's notices. -/
def noticeStream : Destination → BitVec 3 → StreamId
  | .cab => ownStream 0xE10
  | .depot => ownStream 0xE18

/-- The stream of override status frames. -/
def statusStream : BitVec 3 → StreamId := ownStream 0xE20

/-- The five own streams. -/
def isOwnStream (node : BitVec 3) (s : StreamId) : Bool :=
  s == manageStream node || s == replyStream node || s == noticeStream .cab node ||
    s == noticeStream .depot node || s == statusStream node

/-! ## Codes of reported values (R194) -/

def SupplyState.code : SupplyState → Byte
  | .start => 0
  | .returning => 1
  | .live => 2
  | .sag => 3
  | .gap => 4
  | .dewired => 5

def Result.code : Result → Byte
  | .ok => 0
  | .busy => 1
  | .refusedAccess => 2
  | .badSegment => 3
  | .badRange => 4
  | .badState => 5
  | .badOpcode => 6
  | .refusedBudget => 7

def ResetCause.code : ResetCause → Byte
  | .none => 0
  | .powerOn => 1
  | .line => 2
  | .restart => 3

def FaultCode.code : FaultCode → Byte
  | .tableRange => 1
  | .tableInconsistent => 2
  | .storeCheck => 3
  | .actuatorFault => 4
  | .doorStateInvalid => 5
  | .channelImplausible => 6
  | .supplyStale => 7

def OverrideResult.code : OverrideResult → Byte
  | .none => 0
  | .accepted => 1
  | .replaced => 2
  | .cancelled => 3
  | .notFound => 4
  | .refusedFull => 5
  | .refusedInvalid => 6

def ZoneMode.code : ZoneMode → Byte
  | .off => 0
  | .regulate => 1
  | .fallback => 2

def PanelState.code : PanelState → Byte
  | .off => 0
  | .watch => 1
  | .demist => 2
  | .defrost => 3
  | .runOn => 4

def Quality.code : Quality → BitVec 3
  | .absent => 0
  | .fresh => 1
  | .stale => 2
  | .lost => 3
  | .implausible => 4
  | .forced => 5

def SlotState.code : SlotState → BitVec 2
  | .unbound => 0
  | .ok => 1
  | .faulted => 2

def Origin.code : Origin → Byte
  | .console => 0
  | .depot => 1

end Sys2Proof.Machine
end

