-- ==== Sys2Proof/Machine/Entries.lean ====
section
/-!
DEFINITION. Segment entries: their byte layouts (R196, R197), and the limiting and checks each owner
makes at adoption (R3, R7, R25, R27, R54, R76, R90, R91, R127, R150, R151, R172). Where a check
records TABLE_INCONSISTENT, the reading answers the failures too, in the order the owner takes them.
-/

namespace Sys2Proof.Machine

/-- Entry `i` of a segment. -/
def entryAt (seg : Segment) (i : Nat) : List Byte := seg.getD i []

/-- `[x]` when a check fails, once for each failure (log entry 14). -/
def failures {α : Type} (x : α) (n : Nat) : List α := List.replicate n x

/-- 1 when a check fails. -/
def failed (bad : Bool) : Nat := if bad then 1 else 0

/-! ## STREAMS (R149, R150, R196) -/

/-- The disposition a code stands for. Code 0 is unused, read before this. -/
def dispositionOf (code : Nat) : Option Disposition :=
  match code with
  | 1 => some .pass
  | 2 => some .take
  | 3 => some .takePass
  | 4 => some .guarded
  | 5 => some .drop
  | _ => none

/-- The role of a code and a number, absent where the code or the number is out of its list. -/
def roleOf (code number : Nat) : Option Role :=
  match code with
  | 0 => some .none
  | 1 => if h : number < 48 then some (.channel ⟨number, h⟩) else none
  | 2 => if h : number < 8 then some (.door ⟨number, h⟩) else none
  | 3 => some .supply
  | 4 => some .console
  | 5 => if h : number < 32 then some (.echo ⟨number, h⟩) else none
  | _ => none

/-- The port a side code stands for. -/
def sideOf (code : Nat) : Option Port :=
  match code with
  | 0 => some .vehicle
  | 1 => some .plant
  | _ => none

/-- A stream entry's key, VEHICLE before PLANT and streams ascending (R150). -/
def streamKey (side : Port) (stream : StreamId) : Nat :=
  (match side with | .vehicle => 0 | .plant => 4096) + stream.toNat

/-- The key of a stream entry. -/
def StreamEntry.key (e : StreamEntry) : Nat := streamKey e.side e.stream

/-- Checks 1 to 4 of R150 on an entry that is not unused: the adopted form, absent when a check
disables the entry. -/
def streamEntry (bs : List Byte) : Option StreamEntry :=
  match sideOf (u8At bs 0), dispositionOf (u8At bs 3), roleOf (u8At bs 4) (u8At bs 5) with
  | some side, some disposition, some role =>
    let stream := (word16At bs 1).extractLsb' 0 12
    let slot := u8At bs 7
    match disposition with
    | .take =>
      if role = .none then none
      else some { side, stream, disposition, role, freshness := u8At bs 6, guardSlot := 0 }
    | .takePass =>
      if role = .none then none
      else some { side, stream, disposition, role, freshness := u8At bs 6, guardSlot := 0 }
    | .guarded =>
      if side = .plant then none
      else if h : slot < 32 then
        some { side, stream, disposition, role := .none, freshness := 0, guardSlot := ⟨slot, h⟩ }
      else none
    | .pass => some { side, stream, disposition, role := .none, freshness := 0, guardSlot := 0 }
    | .drop => some { side, stream, disposition, role := .none, freshness := 0, guardSlot := 0 }
  | _, _, _ => none

/-- The entries from index `i` on, given the key of the last entry adopted before them: the table
entries, and the indices of the disabled ones (R150). -/
def streamsFrom : Nat → Option Nat → List (List Byte) → List StreamEntry × List Nat
  | _, _, [] => ([], [])
  | i, last, bs :: rest =>
    if u8At bs 3 = 0 then streamsFrom (i + 1) last rest
    else
      match streamEntry bs with
      | none =>
        let r := streamsFrom (i + 1) last rest
        (r.1, i :: r.2)
      | some e =>
        if last.all (· < e.key) then
          let r := streamsFrom (i + 1) (some e.key) rest
          (e :: r.1, r.2)
        else
          let r := streamsFrom (i + 1) last rest
          (r.1, i :: r.2)

/-- The stream table a segment forms, and the indices of its disabled entries (R150). -/
def readStreams (seg : Segment) : List StreamEntry × List Nat := streamsFrom 0 none seg

/-! ## CHANNELS (R127, R196) -/

/-- The range of a quantity (R127). -/
def Quantity.range : Quantity → Int × Int
  | .humidity => (0, 10000)
  | .air => (-4000, 8000)
  | .duct => (-4000, 8000)
  | .glass => (-4000, 8000)
  | .outdoor => (-4000, 8000)

/-- The quantity a code stands for, absent when it is unused or undefined. -/
def quantityOf (code : Nat) : Option Quantity :=
  match code with
  | 1 => some .air
  | 2 => some .duct
  | 3 => some .glass
  | 4 => some .humidity
  | 5 => some .outdoor
  | _ => none

/-- The adopted form of a CHANNELS entry, and how many of its checks failed. The bounds of an unused
channel are neither limited nor checked (log entry 8). -/
def readChannel (bs : List Byte) : ChannelEntry × Nat :=
  let base : ChannelEntry :=
    { quantity := none
      gain := min (u16At bs 1) 4095
      offset := s16At bs 3
      low := s16At bs 5
      high := s16At bs 7
      maxStep := min (u16At bs 9) 10000
      grace := u8At bs 11 }
  match quantityOf (u8At bs 0) with
  | none => (base, failed (5 < u8At bs 0))
  | some q =>
    let lo := clamp base.low q.range.1 q.range.2
    let hi := clamp base.high q.range.1 q.range.2
    if hi < lo then
      ({ base with quantity := some q, low := q.range.1, high := q.range.2 }, 1)
    else ({ base with quantity := some q, low := lo, high := hi }, 0)

/-! ## ZONES (R3, R25, R197) -/

/-- Members in their places; a channel byte 0xFF is absent, and a weight of 0 is taken as 1. -/
def readMembers (bs : List Byte) : List Member :=
  let weights : List Nat := [u8At bs 6 / 16, u8At bs 6 % 16, u8At bs 7 / 16, u8At bs 7 % 16]
  ([2, 3, 4, 5].zip weights).filterMap fun (k, w) =>
    if u8At bs k = 0xFF then none
    else some { channel := u8At bs k, weight := if w = 0 then 1 else w }

/-- The four ladder words of bytes 18..23, entry 0 first: 5 bits of slot, 7 bits of share code. -/
def readLadder (bs : List Byte) : List LadderEntry :=
  let words : BitVec 48 :=
    byteAt bs 18 ++ byteAt bs 19 ++ byteAt bs 20 ++ byteAt bs 21 ++ byteAt bs 22 ++ byteAt bs 23
  [36, 24, 12, 0].filterMap fun k =>
    let w : BitVec 12 := words.extractLsb' k 12
    let share := (w.extractLsb' 0 7).toNat
    if share = 0 then none
    else some { slot := (w.extractLsb' 7 5).toFin, share := min share 100 * 100 }

/-- The body section of a two-bit code of a ZONES entry; 3 is taken as A. -/
def zonePart (code : Nat) : BodySection :=
  match code with
  | 1 => .b
  | 2 => .c
  | _ => .a

/-- The checks of R25: the shares sum to at most 10000, and every member names a channel below 48. -/
def ZoneEntry.consistent (e : ZoneEntry) : Bool :=
  (e.ladder.map LadderEntry.share).sum ≤ 10000 && e.members.all (·.channel < 48)

/-- The adopted form of a ZONES entry, and how many times R25 records its failure. -/
def readZone (bs : List Byte) : ZoneEntry × Nat :=
  let b0 := byteAt bs 0
  let gains : BitVec 32 := byteAt bs 10 ++ byteAt bs 11 ++ byteAt bs 12 ++ byteAt bs 13
  let lo := clamp (1200 + 10 * (u8At bs 8 : Int)) 1200 3200
  let hi := clamp (1200 + 10 * (u8At bs 9 : Int)) 1200 3200
  let period := u8At bs 1
  let e : ZoneEntry :=
    { enabled := b0.getLsbD 0
      part := zonePart (b0.extractLsb' 4 2).toNat
      members := readMembers bs
      setMin := lo
      setMax := max lo hi
      kp := (gains.extractLsb' 20 12).toNat
      ki := u8At bs 14
      kf := (gains.extractLsb' 10 10).toNat
      tbal := clamp (25 * s8At bs 15) (-2000) 3000
      kg := (gains.extractLsb' 0 10).toNat
      rounding := if b0.getLsbD 1 then .nearest else .chop
      cool := b0.getLsbD 2
      bankMargin := min (2 * u8At bs 16) 300
      fallbackBias := min (25 * u8At bs 17) 5000
      passPeriod := if period = 0 then 10 else limitNat period 5 40
      ladder := readLadder bs }
  if e.consistent then (e, 0) else ({ e with enabled := false }, 1)

/-! ## SCHEDULE (R7, R197) -/

/-- A band entry after limiting. -/
def readBand (bs : List Byte) : Band :=
  { bound := clamp (s16At bs 1) (-4000) 8000
    saloon := clamp (u16At bs 3) 1200 3200
    cab := clamp (u16At bs 5) 1200 3200
    freshAir := limitNat (u8At bs 7) 20 100 }

/-- The bands from index `i` on, given the bound of the band before: the list ends at the first
unused band, and is cut at the first bound not greater than the one before it, whose index is
answered (R7, log entry 9). -/
def bandsFrom : Nat → Option Int → List (List Byte) → List Band × Option Nat
  | _, _, [] => ([], none)
  | i, last, bs :: rest =>
    if u8At bs 0 = 0 then ([], none)
    else
      let b := readBand bs
      if last.all (· < b.bound) then
        let r := bandsFrom (i + 1) (some b.bound) rest
        (b :: r.1, r.2)
      else ([], some i)

/-- The schedule list a segment forms, and the index of the band that cut it. -/
def readSchedule (seg : Segment) : List Band × Option Nat := bandsFrom 0 none seg

/-! ## LOADS (R27, R196) -/

/-- The kind a code stands for, absent when it is unused or undefined. -/
def loadKindOf (code : Nat) : Option LoadKind :=
  match code with
  | 1 => some .floorHeater
  | 2 => some .roofHeater
  | 3 => some .curtain
  | 4 => some .compressor
  | 5 => some .fan
  | 6 => some .cabBlower
  | 7 => some .film
  | 8 => some .damper
  | _ => none

/-- The section field of a LOADS entry. -/
def loadPlaceOf (code : Nat) : LoadPlace :=
  match code with
  | 0 => .body .a
  | 1 => .body .b
  | 2 => .body .c
  | _ => .cab

/-- The adopted form of a LOADS entry, absent when it is unused, with the limits and the fixed
readings of R27 (log entry 18). -/
def readLoad (bs : List Byte) : Option LoadEntry :=
  match loadKindOf (u8At bs 0) with
  | none => none
  | some kind =>
    let b1 := byteAt bs 1
    let place := loadPlaceOf (b1.extractLsb' 4 2).toNat
    let stages := min (u8At bs 3) 8
    let period := u8At bs 9
    some
      { kind
        pool := if kind = .compressor then .line else if b1.getLsbD 0 then .battery else .line
        rated := if kind = .damper then 0 else limitNat (u8At bs 2) 1 250
        stages := if kind = .compressor ∨ kind = .damper then 0 else stages
        minLevel := if kind = .compressor then 30 else min (u8At bs 4) 100
        commandStream := (word16At bs 5).extractLsb' 0 12
        echoStream :=
          if word16At bs 7 = 0xFFFF then none
          else some (BitVec.ofNat 12 (min (u16At bs 7) 4095))
        refresh := if period = 0 then 10 else limitNat period 5 50
        place := if kind ≠ .damper ∧ place = .cab then .body .a else place }

/-- Whether two entries claim the same single place: a compressor or a fan of one section, or the
cab blower (R27). -/
def sameSinglePlace (x y : LoadEntry) : Bool :=
  match x.kind, y.kind with
  | .compressor, .compressor => x.place == y.place
  | .fan, .fan => x.place == y.place
  | .cabBlower, .cabBlower => true
  | _, _ => false

/-- The slots from `i` on, given the entries adopted before: the adopted entries, and the numbers of
the slots made UNBOUND for claiming a place already claimed (R27). -/
def loadsFrom : Nat → List LoadEntry → List (List Byte) → List (Option LoadEntry) × List Nat
  | _, _, [] => ([], [])
  | i, before, bs :: rest =>
    match readLoad bs with
    | none =>
      let r := loadsFrom (i + 1) before rest
      (none :: r.1, r.2)
    | some e =>
      if before.any (sameSinglePlace e) then
        let r := loadsFrom (i + 1) before rest
        (none :: r.1, i :: r.2)
      else
        let r := loadsFrom (i + 1) (e :: before) rest
        (some e :: r.1, r.2)

/-- The adopted LOADS entries, and the slots made UNBOUND. -/
def readLoads (seg : Segment) : Table 32 (Option LoadEntry) × List Nat :=
  let r := loadsFrom 0 [] seg
  (Table.tabulate fun i => r.1.getD i.val none, r.2)

/-! ## DOORS (R76, R196) -/

/-- A slot byte: 0xFF is absent, and a number of 32 or more is absent too and fails a check. -/
def slotByte (n : Nat) : Option (Fin 32) × Nat :=
  if h : n < 32 then (some ⟨n, h⟩, 0) else (none, failed (n ≠ 0xFF))

/-- A channel byte: 0xFF is absent, and a number of 48 or more is absent too and fails a check. -/
def channelByte (n : Nat) : Option (Fin 48) × Nat :=
  if h : n < 48 then (some ⟨n, h⟩, 0) else (none, failed (n ≠ 0xFF))

/-- The zone field of a DOORS entry: 8 to 15 is none. -/
def doorZone (n : Nat) : Option (Fin 8) := if h : n < 8 then some ⟨n, h⟩ else none

/-- The adopted form of a DOORS entry, and how many of its checks failed. -/
def readDoor (bs : List Byte) : DoorEntry × Nat :=
  let curtain := slotByte (u8At bs 1)
  let t1 := clamp (100 * s8At bs 3) (-4000) 8000
  let t2 := clamp (100 * s8At bs 4) (-4000) 8000
  let t3 := clamp (100 * s8At bs 5) (-4000) 8000
  let ascending : Bool := t1 < t2 ∧ t2 < t3
  ({ zone := doorZone (u8At bs 0 % 16)
     curtain := curtain.1
     decay := limitNat (u8At bs 2) 1 255
     t1 := if ascending then t1 else 0
     t2 := if ascending then t2 else 800
     t3 := if ascending then t3 else 1400
     longOpen := limitNat (10 * u8At bs 6) 30 900
     rampLimit := limitNat (10 * u8At bs 7) 30 1800
     holdOver := min (5 * (u8At bs 0 / 16)) 60 },
   failed (!ascending) + curtain.2)

/-! ## GLAZING and DEWPOINT (R90, R91, R196, R197) -/

/-- The adopted form of a GLAZING entry, and how many of its checks failed. -/
def readPanel (bs : List Byte) : PanelEntry × Nat :=
  let glass := channelByte (u8At bs 1)
  let humidity := channelByte (u8At bs 2)
  let film := slotByte (u8At bs 3)
  let on := min (u16At bs 4) 3000
  let off := min (u16At bs 6) 3000
  ({ enabled := u8At bs 0 ≠ 0
     glass := glass.1
     humidity := humidity.1
     film := film.1
     marginOn := if on < off then on else 200
     marginOff := if on < off then off else 500
     escalate := limitNat (5 * u8At bs 8) 10 600
     runOn := min (5 * u8At bs 9) 600
     k := min (u16At bs 10) 256 },
   glass.2 + humidity.2 + film.2 + failed (off ≤ on))

/-- The depression table a segment holds. -/
def readDew (seg : Segment) : Table 11 Nat :=
  Table.tabulate fun i => min (u16At (entryAt seg i.val) 0) 6000

/-! ## SUPPLY, NOTICE and PORT (R54, R151, R172, R197) -/

/-- The adopted form of the SUPPLY entry, and how many of its checks failed. -/
def readSupply (bs : List Byte) : SupplyEntry × Nat :=
  let sag := limitNat (u16At bs 0) 100 1200
  let gap := min (u16At bs 2) 1100
  ({ sag := if gap < sag then sag else 500
     gap := if gap < sag then gap else 250
     gapLimit := limitNat (u8At bs 4) 5 100
     climateMax := min (u16At bs 5) 450
     battery := min (u8At bs 7) 60
     outdoorFallback := clamp (s16At bs 8) (-4000) 8000
     minimumRun := limitNat (u16At bs 10) 30 300
     shortLock := limitNat (u8At bs 12) 10 120
     longLock := limitNat (u16At bs 13) 60 600 },
   failed (sag ≤ gap))

/-- The adopted form of the NOTICE entry. -/
def readNotice (bs : List Byte) : NoticeEntry :=
  { cabMask := flags24At bs 0, depotMask := flags24At bs 3, storeUnmasked := u8At bs 6 ≠ 0 }

/-- The adopted form of the PORT entry, and how many of its defaults hold another encoding: the
vehicle default is then DROP and the plant default PASS (R151). -/
def readPort (bs : List Byte) : PortEntry × Nat :=
  ({ vehiclePasses := u8At bs 0 = 1, plantPasses := u8At bs 1 ≠ 2 },
   failed (u8At bs 0 ≠ 1 && u8At bs 0 ≠ 2) + failed (u8At bs 1 ≠ 1 && u8At bs 1 ≠ 2))

end Sys2Proof.Machine
end

