-- ==== Sys2Proof/Machine/Flags.lean ====
section
/-!
DEFINITION. The notice flags: the numbers, natures and validities of the 24 sources (R162, R163), the
level conditions of every block as functions of the state (R10, R19, R39, R74, R82, R107, R140, R145,
R162), and the rule that moves a level raw and its status (R163 to R165).
-/

namespace Sys2Proof.Machine

/-- The number of a source (R162). -/
def Source.number : Source → Nat
  | .supplyDewired => 0
  | .supplyReduced => 1
  | .plantSilent => 2
  | .zoneFallback => 3
  | .zoneSaturated => 4
  | .priorityLimited => 5
  | .glazingActive => 6
  | .doorLongOpen => 7
  | .outdoorUnknown => 8
  | .serviceMode => 9
  | .manualActive => 10
  | .compressorHeld => 11
  | .channelLost => 12
  | .channelImplausible => 13
  | .doorStateLost => 14
  | .actuatorFault => 15
  | .supplyStale => 16
  | .overrideRefused => 17
  | .overrideExpired => 18
  | .portOverrun => 19
  | .frameError => 20
  | .loadBroken => 21
  | .faultRecorded => 22
  | .test => 23

/-- A source's place in the masks, the raws and the statuses. -/
def Source.bit (x : Source) : BitVec 24 := BitVec.twoPow 24 x.number

/-- The level sources, in ascending number (R162). -/
def levelSources : List Source :=
  [.supplyDewired, .supplyReduced, .plantSilent, .zoneFallback, .zoneSaturated, .priorityLimited,
    .glazingActive, .doorLongOpen, .outdoorUnknown, .serviceMode, .manualActive, .compressorHeld]

/-- The raws of the edge sources (R162). -/
def edgeMask : BitVec 24 := 0xFFF000

/-- Whether a source is valid: V1 in LIVE or SAG, V2 while PLANT_SILENT is false (R162, R163). -/
def State.valid (s : State) : Source → Bool
  | .zoneFallback => s.budget.state == .live || s.budget.state == .sag
  | .zoneSaturated => s.budget.state == .live || s.budget.state == .sag
  | .priorityLimited => s.budget.state == .live || s.budget.state == .sag
  | .compressorHeld => s.budget.state == .live || s.budget.state == .sag
  | .channelLost => !s.path.plantSilent
  | .channelImplausible => !s.path.plantSilent
  | .actuatorFault => !s.path.plantSilent
  | .supplyDewired => true
  | .supplyReduced => true
  | .plantSilent => true
  | .glazingActive => true
  | .doorLongOpen => true
  | .outdoorUnknown => true
  | .serviceMode => true
  | .manualActive => true
  | .doorStateLost => true
  | .supplyStale => true
  | .overrideRefused => true
  | .overrideExpired => true
  | .portOverrun => true
  | .frameError => true
  | .loadBroken => true
  | .faultRecorded => true
  | .test => true

/-- The zone covers 600 s of saturation (R19). -/
def ZoneRec.saturated (z : ZoneRec) : Bool := 6000 ≤ z.satCount * z.entry.passPeriod

/-- The compressor record is OFF_LOCKED with its section's cooling call set (R39). -/
def SectionRec.held (x : SectionRec) : Bool :=
  match x.compressor with
  | some r => r.state == .offLocked && x.call
  | none => false

/-- The row is a nonzero request of class 0 or 1 with its limited flag set (R74). -/
def GrantRow.priorityLimited (r : GrantRow) : Bool := r.cls ≤ 1 && r.request != 0 && r.limited

/-- The condition of a level source, as the owning block holds it. An edge source has none. -/
def State.condition (s : State) : Source → Bool
  | .supplyDewired => s.budget.state == .dewired
  | .supplyReduced => s.budget.state == .sag || s.budget.state == .returning
  | .plantSilent => s.path.plantSilent
  | .zoneFallback => s.zone.zones.any fun z => z.entry.enabled && z.mode == .fallback
  | .zoneSaturated => s.zone.zones.any fun z => z.entry.enabled && z.saturated
  | .priorityLimited => s.budget.rows.any GrantRow.priorityLimited
  | .glazingActive =>
    s.glazing.panels.any fun p => p.entry.enabled && (p.state == .demist || p.state == .defrost)
  | .doorLongOpen => s.door.doors.any fun d => d.entry.zone.isSome && d.longOpen
  | .outdoorUnknown => s.sample.outdoorUnknown
  | .serviceMode => s.agent.service.isSome
  | .manualActive => s.actuator.slots.any SlotRec.manual
  | .compressorHeld => s.actuator.sections.any SectionRec.held
  | .channelLost => false
  | .channelImplausible => false
  | .doorStateLost => false
  | .actuatorFault => false
  | .supplyStale => false
  | .overrideRefused => false
  | .overrideExpired => false
  | .portOverrun => false
  | .frameError => false
  | .loadBroken => false
  | .faultRecorded => false
  | .test => false

/-- Whether a change of a source's raw sets its status: it is enabled in a mask, or store-unmasked
is on (R165). -/
def NoticeEntry.stores (e : NoticeEntry) (x : Source) : Bool :=
  e.storeUnmasked || (e.cabMask ||| e.depotMask) &&& x.bit != 0

/-- Whether a source's raw is 1. -/
def NoticeUnit.raw (n : NoticeUnit) (x : Source) : Bool := n.raws &&& x.bit != 0

/-- Whether a source's status is set. -/
def NoticeUnit.status (n : NoticeUnit) (x : Source) : Bool := n.statuses &&& x.bit != 0

/-- The unit with a source's raw written. -/
def NoticeUnit.withRaw (n : NoticeUnit) (x : Source) (on : Bool) : NoticeUnit :=
  { n with raws := if on then n.raws ||| x.bit else n.raws &&& ~~~x.bit }

/-- The unit with a source's status set, when it is stored (R165). -/
def NoticeUnit.setStatus (n : NoticeUnit) (x : Source) : NoticeUnit :=
  if n.entry.stores x then { n with statuses := n.statuses ||| x.bit } else n

/-- A level raw follows its condition while its source is valid and is 0 otherwise; a change sets
the status, but not a fall to 0 of an invalid source (R163 to R165). -/
def NoticeUnit.follow (n : NoticeUnit) (x : Source) (valid condition : Bool) : NoticeUnit :=
  let now := valid && condition
  if now == n.raw x then n
  else if !valid then n.withRaw x now
  else (n.withRaw x now).setStatus x

/-- An edge raise: latched only while the source is valid and its raw is 0 (R163, R164). -/
def NoticeUnit.latch (n : NoticeUnit) (x : Source) (valid : Bool) : NoticeUnit :=
  if valid && !n.raw x then (n.withRaw x true).setStatus x else n

/-- A clear of a set of sources: their statuses, and their raws where they are edge sources (R168,
R170). -/
def NoticeUnit.clear (n : NoticeUnit) (named : BitVec 24) : NoticeUnit :=
  { n with statuses := n.statuses &&& ~~~named, raws := n.raws &&& ~~~(named &&& edgeMask) }

/-- The mask of a destination (R172). -/
def NoticeUnit.mask (n : NoticeUnit) : Destination → BitVec 24
  | .cab => n.entry.cabMask
  | .depot => n.entry.depotMask

/-- The record of a destination (R166). -/
def NoticeUnit.dest (n : NoticeUnit) : Destination → DestinationRec
  | .cab => n.cab
  | .depot => n.depot

/-- The unit with a destination's record written. -/
def NoticeUnit.setDest (n : NoticeUnit) (d : Destination) (r : DestinationRec) : NoticeUnit :=
  match d with
  | .cab => { n with cab := r }
  | .depot => { n with depot := r }

/-- The statuses that are set and enabled for a destination (R167). -/
def NoticeUnit.shown (n : NoticeUnit) (d : Destination) : BitVec 24 := n.statuses &&& n.mask d

end Sys2Proof.Machine
end

