-- ==== Sys2Proof/Machine/Ops.lean ====
section
/-!
DEFINITION. The operations every block's events are made of: records of the state, timers and part
time, and an event in progress (`Event`), with the raise of a notice source, the recording of a
fault, the offer of a frame to a transmit queue, the placing of a command and the examination of the
notice destinations.
-/

namespace Sys2Proof.Machine

/-! ## Records of the state -/

def State.zoneAt (s : State) (z : Fin 8) : ZoneRec := s.zone.zones.get z
def State.slotAt (s : State) (i : Fin 32) : SlotRec := s.actuator.slots.get i
def State.sectionAt (s : State) (x : BodySection) : SectionRec :=
  s.actuator.sections.get (sectionIndex x)
def State.rowAt (s : State) (i : Fin 32) : GrantRow := s.budget.rows.get i
def State.doorAt (s : State) (d : Fin 8) : DoorRec := s.door.doors.get d
def State.holdOverAt (s : State) (z : Fin 8) : Timer := s.door.holdOver.get z
def State.panelAt (s : State) (p : Fin 4) : PanelRec := s.glazing.panels.get p
def State.channelAt (s : State) (c : Fin 48) : ChannelRec := s.sample.channels.get c

def State.setZone (s : State) (z : Fin 8) (r : ZoneRec) : State :=
  { s with zone := { s.zone with zones := s.zone.zones.set z r } }
def State.setSlot (s : State) (i : Fin 32) (r : SlotRec) : State :=
  { s with actuator := { s.actuator with slots := s.actuator.slots.set i r } }
def State.setSection (s : State) (x : BodySection) (r : SectionRec) : State :=
  { s with
    actuator := { s.actuator with sections := s.actuator.sections.set (sectionIndex x) r } }
def State.setRow (s : State) (i : Fin 32) (r : GrantRow) : State :=
  { s with budget := { s.budget with rows := s.budget.rows.set i r } }
def State.setDoor (s : State) (d : Fin 8) (r : DoorRec) : State :=
  { s with door := { s.door with doors := s.door.doors.set d r } }
def State.setHoldOver (s : State) (z : Fin 8) (t : Timer) : State :=
  { s with door := { s.door with holdOver := s.door.holdOver.set z t } }
def State.setPanel (s : State) (p : Fin 4) (r : PanelRec) : State :=
  { s with glazing := { s.glazing with panels := s.glazing.panels.set p r } }
def State.setChannel (s : State) (c : Fin 48) (r : ChannelRec) : State :=
  { s with sample := { s.sample with channels := s.sample.channels.set c r } }

/-- Every slot record changed by a function of its number and itself. -/
def State.mapSlots (s : State) (f : Fin 32 → SlotRec → SlotRec) : State :=
  { s with actuator := { s.actuator with slots := s.actuator.slots.map f } }

/-- Every slot's contributions changed by a function of the slot's number and record. -/
def State.mapAsks (s : State) (f : Fin 32 → SlotRec → Asks) : State :=
  s.mapSlots fun i r => { r with asks := f i r }

/-- The slots in ascending order. -/
def allSlots : List (Fin 32) := List.finRange 32
/-- The zones in ascending order. -/
def allZones : List (Fin 8) := List.finRange 8
/-- The doors in ascending order. -/
def allDoors : List (Fin 8) := List.finRange 8
/-- The panels in ascending order. -/
def allPanels : List (Fin 4) := List.finRange 4
/-- The channels in ascending order. -/
def allChannels : List (Fin 48) := List.finRange 48
/-- The body sections in order. -/
def allSections : List BodySection := [.a, .b, .c]

/-! ## Part time and timers -/

/-- The controller runs: the supply is up and the reset input is not held (R188). -/
def State.running (s : State) : Bool := s.pins.supplyUp && !s.pins.resetHeld

/-- A timer started now with a duration in milliseconds. -/
def State.timer (s : State) (ms : Nat) : Timer := some (s.partTime + BitVec.ofNat 32 ms)

/-- The milliseconds from now to a part time that is not yet past; 0 for one that is past. -/
def State.remaining (s : State) (t : PartTime) : Nat :=
  let ahead := t - s.partTime
  if ahead.msb then 0 else ahead.toNat

/-- The event in which a timer expires: absent while the timer is stopped or the controller does not
run, otherwise the state at the part time of the expiry (log entry 1). -/
def State.expire (s : State) (t : Timer) : Option State :=
  match t with
  | none => none
  | some at_ =>
    if s.running then
      some { s with partTime := s.partTime + BitVec.ofNat 32 (s.remaining at_) }
    else none

/-- What a command answers. -/
abbrev Answer := Host.Outcome State Fault Refusal

/-- A command that is no expiry: it changes nothing while the supply is down or the reset input is
held (R188). -/
def whenRunning (s : State) (f : State → State) : Answer := .next (if s.running then f s else s)

/-- The expiry of a timer: an expiry of a stopped timer does not occur, so it changes nothing (log
entry 1). -/
def onExpiry (s : State) (t : Timer) (f : State → State) : Answer :=
  match s.expire t with
  | some s' => .next (f s')
  | none => .next s

/-- The block takes an event that the classifier has handed on (R152, R154): the first such event
leaves the handed list. An event that was not handed on leaves the list as it is (log entry 2). -/
def State.taken (s : State) (c : Instr) : State :=
  { s with
    classifier := { s.classifier with handed := s.classifier.handed.eraseP (·.event = c) } }

/-! ## An event in progress -/

/-- An event in progress: the state so far, and what is made once at its end.
`statusSet`: a status has been set, so the destinations are examined (R167).
`noticeAdopted`: the NOTICE entry was adopted, so the destinations are examined by R172.
`cleared`: a clear was taken, so the destinations are examined by R171.
`owedReply`: the reply to a NOTICE_CLEAR, which follows the NOTICE frames of its clear (R168).
`passDue`: a budget pass is called for (R67). `flagsDue`: a fall calls for the flags of R73.
`holdEnded`: the start-up hold ended in this event (R28). `joins`: the commands that join the end of
the command set, in ascending slot order (R44). `restartDue`: the marked reply to RESTART was
discarded (R190). `lockA`: the lock condition of compressor A that the glazing unit has
been handed (R104). -/
structure Event where
  st : State
  statusSet : Bool
  noticeAdopted : Bool
  cleared : Bool
  owedReply : Option VehicleFrame
  passDue : Bool
  flagsDue : Bool
  holdEnded : Bool
  joins : List WaitingCommand
  restartDue : Bool
  lockA : Bool

/-- The slot is the compressor of section A (R27). -/
def SlotRec.compressorA (r : SlotRec) : Bool :=
  r.entry.any fun l => l.kind == .compressor && l.place == .body .a

/-- Compressor A is locked, as the glazing unit sees it: its record is OFF_LOCKED, or section A has
no compressor, or its slot is FAULTED (R39, R104). -/
def State.lockedA (s : State) : Bool :=
  !s.actuator.slots.any SlotRec.compressorA ||
    (s.actuator.slots.any fun r => r.compressorA && r.state == .faulted) ||
    match (s.sectionAt .a).compressor with
    | none => true
    | some r => r.state == .offLocked

/-- An event that begins in a state. -/
def Event.of (s : State) : Event :=
  { st := s
    statusSet := false
    noticeAdopted := false
    cleared := false
    owedReply := none
    passDue := false
    flagsDue := false
    holdEnded := false
    joins := []
    restartDue := false
    lockA := s.lockedA }

/-- The state changed by a function. -/
def Event.map (e : Event) (f : State → State) : Event := { e with st := f e.st }

/-- A budget pass is called for (R67). -/
def Event.callPass (e : Event) : Event := { e with passDue := true }

/-! ## Notices and faults -/

/-- The notice unit changed; the event remembers whether a status was set. -/
def Event.notice (e : Event) (n : NoticeUnit) : Event :=
  { e with
    st := { e.st with notice := n }
    statusSet := e.statusSet || (n.statuses &&& ~~~e.st.notice.statuses) != 0 }

/-- An edge source is raised (R164). -/
def Event.raise (e : Event) (x : Source) : Event :=
  e.notice (e.st.notice.latch x (e.st.valid x))

/-- A fault is recorded: it fills an empty record and raises FAULT_RECORDED, or sets the
further-faults flag of a holding one (R174). -/
def Event.fault (e : Event) (code : FaultCode) (index : Nat) : Event :=
  match e.st.notice.record with
  | none =>
    (e.notice { e.st.notice with
      record := some
        { code, index, time := e.st.partTime, supply := e.st.budget.state, further := false }
      }).raise .faultRecorded
  | some r => e.notice { e.st.notice with record := some { r with further := true } }

/-- Several faults of one code, in order. -/
def Event.faults (e : Event) (code : FaultCode) (indices : List Nat) : Event :=
  indices.foldl (fun e i => e.fault code i) e

/-! ## The vehicle transmit queue (R157) -/

/-- When the transmitter is idle and a frame waits, the head frame begins. -/
def FramePath.beginVehicle (p : FramePath) : FramePath :=
  match p.vehicleTx, p.vehicleQueue with
  | none, h :: t => { p with vehicleTx := some h, vehicleQueue := t }
  | _, _ => p

/-- A frame is offered: a forwarded one is admitted while fewer than 16 frames wait, an own one while
fewer than 24 wait; a discard raises PORT_OVERRUN, and the discard of the marked reply calls for the
restart (R157, R190). -/
def Event.offerVehicle (e : Event) (own : Bool) (f : VehicleFrame) : Event :=
  let p := e.st.path
  if p.vehicleQueue.length < (if own then 24 else 16) then
    e.map fun s =>
      { s with path := { p with vehicleQueue := p.vehicleQueue ++ [f] }.beginVehicle }
  else
    { e.raise .portOverrun with restartDue := e.restartDue || f.restartReply }

/-- An own frame that is not the reply to RESTART. -/
def Event.sendOwn (e : Event) (f : Frame) : Event :=
  e.offerVehicle true { frame := f, restartReply := false }

/-! ## The plant forward queue, the command set and the plant transmitter (R159 to R161) -/

/-- A frame is offered to the plant forward queue: it joins while fewer than 16 wait, otherwise it is
discarded and PORT_OVERRUN raised (R159). -/
def Event.offerForward (e : Event) (f : ForwardFrame) : Event :=
  let p := e.st.path
  if p.forwardQueue.length < 16 then
    e.map fun s => { s with path := { p with forwardQueue := p.forwardQueue ++ [f] } }
  else e.raise .portOverrun

/-- Every waiting frame marked with the slot leaves the forward queue (R159). -/
def FramePath.dropGuarded (p : FramePath) (i : Fin 32) : FramePath :=
  { p with forwardQueue := p.forwardQueue.filter fun f => f.guardSlot != some i }

/-- When the transmitter is idle and a frame waits, one begins, chosen by the run count (R161). -/
def FramePath.beginPlant (p : FramePath) : FramePath :=
  match p.plantTx with
  | some _ => p
  | none =>
    match p.commandSet, p.forwardQueue with
    | [], [] => p
    | [], f :: fs => { p with plantTx := some f.frame, forwardQueue := fs, runCount := 0 }
    | c :: cs, [] =>
      { p with plantTx := some c.frame, commandSet := cs, runCount := min (p.runCount + 1) 4 }
    | c :: cs, f :: fs =>
      if p.runCount = 4 then
        { p with plantTx := some f.frame, forwardQueue := fs, runCount := 0 }
      else
        { p with plantTx := some c.frame, commandSet := cs, runCount := min (p.runCount + 1) 4 }

/-- A waiting list with the frame put in the place of the slot's waiting frame. -/
def replaceCommand (l : List WaitingCommand) (c : WaitingCommand) : List WaitingCommand :=
  l.map fun x => if x.slot = c.slot then c else x

/-- A list in ascending slot order with the frame joined to it. -/
def joinCommand : List WaitingCommand → WaitingCommand → List WaitingCommand
  | [], c => [c]
  | x :: xs, c => if c.slot < x.slot then c :: x :: xs else x :: joinCommand xs c

/-- The frame takes the place of the slot's waiting frame, or joins the end of the set with the
event's other joining frames (R44, R160). -/
def Event.putCommand (e : Event) (c : WaitingCommand) : Event :=
  let p := e.st.path
  if p.commandSet.any (·.slot = c.slot) then
    e.map fun s => { s with path := { p with commandSet := replaceCommand p.commandSet c } }
  else if e.joins.any (·.slot = c.slot) then { e with joins := replaceCommand e.joins c }
  else { e with joins := joinCommand e.joins c }

/-- A waiting command of the slot is removed (R50, R51, R160). -/
def Event.dropCommand (e : Event) (i : Fin 32) : Event :=
  { e with
    st := { e.st with
      path := { e.st.path with
        commandSet := e.st.path.commandSet.filter fun c => c.slot ≠ i } }
    joins := e.joins.filter fun c => c.slot ≠ i }

/-- A command with the commanded level of a slot is placed: the sequence is increased, the frame
formed, the echoed level made absent and the refresh timer restarted. A slot that is UNBOUND or
MANUAL is sent nothing (R44). -/
def Event.placeCommand (e : Event) (i : Fin 32) : Event :=
  let r := e.st.slotAt i
  match r.entry with
  | none => e
  | some l =>
    if r.state = .unbound ∨ r.manual then e
    else
      let seq := r.sequence + 1
      let frame := makeFrame l.commandStream .command seq [byteOf r.commanded]
      (e.map fun s =>
        s.setSlot i
          { r with sequence := seq, echoed := none, refreshTimer := s.timer (100 * l.refresh) }
        ).putCommand { slot := i, frame }

/-- The commanded level of a slot takes a value; a change places a command (R43, R44). -/
def Event.command (e : Event) (i : Fin 32) (level : Nat) : Event :=
  let r := e.st.slotAt i
  if r.commanded = level then e
  else (e.map fun s => s.setSlot i { r with commanded := level }).placeCommand i

/-! ## Examination of the notice destinations -/

/-- A NOTICE frame of a destination is formed and offered, and the destination is RAISED (R167,
R195). -/
def Event.sendNotice (e : Event) (d : Destination) : Event :=
  let n := e.st.notice
  let count := (n.dest d).count + 1
  let payload :=
    flagBytes24 (n.shown d) ++ flagBytes24 n.raws ++ [e.st.budget.state.code] ++
      bytes32 e.st.partTime
  let frame := makeFrame (noticeStream d e.st.path.node) .notice count payload
  (e.map fun s => { s with notice := n.setDest d { raised := true, count } }).sendOwn frame

/-- A QUIET destination with an enabled status set sends and becomes RAISED (R167). -/
def Event.examine (e : Event) (d : Destination) : Event :=
  let n := e.st.notice
  if !(n.dest d).raised && n.shown d != 0 then e.sendNotice d else e

/-- A RAISED destination becomes QUIET. -/
def Event.quiet (e : Event) (d : Destination) : Event :=
  e.map fun s =>
    { s with notice := s.notice.setDest d { s.notice.dest d with raised := false } }

/-- The examination of a destination at the end of an event. A RAISED one with nothing left to show
becomes QUIET after a clear or an adoption, and after a clear one with something left sends it (R171,
R172); a QUIET one is examined where a status was set or the NOTICE entry adopted (R167, R172). -/
def Event.examineEnd (e : Event) (d : Destination) : Event :=
  let n := e.st.notice
  if (n.dest d).raised then
    if n.shown d = 0 then if e.cleared || e.noticeAdopted then e.quiet d else e
    else if e.cleared then e.sendNotice d
    else e
  else if e.statusSet || e.noticeAdopted then e.examine d
  else e

/-- CAB is examined, then DEPOT, then CAB once more, for a PORT_OVERRUN that the discard of the DEPOT
frame raised (R167). -/
def Event.examineBoth (e : Event) : Event :=
  let e := (e.examineEnd .cab).examineEnd .depot
  if e.statusSet then e.examine .cab else e

/-- The reply to a NOTICE_CLEAR is offered, and the PORT_OVERRUN of its discard is applied (R157, R167,
R168). -/
def Event.giveReply (e : Event) : Event :=
  match e.owedReply with
  | some f =>
    let e := e.offerVehicle true f
    if e.statusSet then ((e.examine .cab).examine .depot).examine .cab else e
  | none => e

/-- Every level raw takes the value of its condition, under its validity (R163 to R165). -/
def Event.settleLevels (e : Event) : Event :=
  levelSources.foldl
    (fun e x => e.notice (e.st.notice.follow x (e.st.valid x) (e.st.condition x))) e

/-- The end of an event at the notice unit: every change of the event is applied, then the destinations
are examined (R166, R167; the clears of the event stand before its level changes, log entry 12). -/
def Event.report (e : Event) : Event := e.settleLevels.examineBoth.giveReply

/-- The end of an event at the plant port: the placed commands join the command set, and an idle
transmitter begins a frame (R44, R161). -/
def Event.commitPlant (e : Event) : State :=
  { e.st with
    path := { e.st.path with
      commandSet := e.st.path.commandSet ++ e.joins }.beginPlant }

/-- The end of an event that changes no contribution, request or level. -/
def Event.done (e : Event) : State := e.report.commitPlant

end Sys2Proof.Machine
end

