-- ==== Sys2Proof/Machine/Loads.lean ====
section
/-!
DEFINITION. From demands, doors and panels to requests, and from grants to levels: the powers of
asked levels and stages (R29), every requester's contribution (R32 to R35, R40 to R42, R86, R87,
R102, R104), the request of a slot (R31, R66), its level (R43), and the compressor records (R36 to
R38).
-/

namespace Sys2Proof.Machine

/-! ## The override list as the other blocks read it (R119) -/

/-- The latest entry of the list that satisfies a test (R119). -/
def State.latestOverride (s : State) (p : OverrideEntry → Bool) : Option OverrideEntry :=
  (s.override.entries.filter p).getLast?

/-- Whether an entry with this key stands in the list. -/
def State.standing (s : State) (kind : OverrideKind) (target : Target) : Bool :=
  s.override.entries.any fun x => x.kind == kind && x.target == target

/-- The setpoint offset of a zone (R12, R120). -/
def State.setpointOffset (s : State) (z : Fin 8) : Int :=
  match s.latestOverride fun x =>
      x.kind == .setpointOffset &&
        (x.target == .zone z || (z != 0 && x.target == .allSaloon)) with
  | some x => x.value
  | none => 0

/-- The value of the FAN_LEVEL entry that applies to a target (R40, R41, R121). -/
def State.fanLevel (s : State) (t : Target) : Option Nat :=
  (s.latestOverride fun x => x.kind == .fanLevel && x.target == t).map (·.value.toNat)

/-- A RECIRC entry applies to a damper's place (R42). -/
def State.recirculates (s : State) : LoadPlace → Bool
  | .body x => s.standing .recirc (.body x)
  | .cab => s.standing .recirc .cab

/-- A DEFROST_NOW entry applies to a panel (R101). -/
def State.defrostNow (s : State) (p : Fin 4) : Bool := s.standing .defrostNow (.panel p)

/-- A CURTAIN_OFF entry applies to a door (R86). -/
def State.curtainOff (s : State) (d : Fin 8) : Bool :=
  s.standing .curtainOff (.door d) || s.standing .curtainOff .allDoors

/-- A CLIMATE_OFF entry stands (R34). -/
def State.climateOff (s : State) : Bool := s.standing .climateOff .allSaloon

/-! ## Powers (R29) -/

/-- The power of an asked level. -/
def LoadEntry.levelPower (l : LoadEntry) (percent : Nat) : Nat := ceilDiv (l.rated * percent) 100

/-- The power of an asked stage; of a continuous load it is free (log entry 7). -/
def LoadEntry.stagePower (l : LoadEntry) (k : Nat) : Nat :=
  if l.stages = 0 then min l.rated (Config.stagePowerOnContinuous l.rated k)
  else ceilDiv (l.rated * k) l.stages

/-- The minimum power of a slot. -/
def LoadEntry.minPower (l : LoadEntry) : Nat :=
  if l.kind = .damper then 0
  else if l.stages = 0 then ceilDiv (l.rated * l.minLevel) 100
  else ceilDiv l.rated l.stages

/-- A contribution of power 0 is held as absent. -/
def presentPower (power : Nat) : Option Nat := if power = 0 then none else some power

/-- The contribution of a level asked of a load, absent when no level is asked. -/
def LoadEntry.askLevel (l : LoadEntry) (level : Option Nat) : Option Nat :=
  level.bind fun percent => presentPower (l.levelPower percent)

/-- The power of a glazing contribution, in the form it was asked (R51, R102). -/
def LoadEntry.glazingPower (l : LoadEntry) : GlazingAsk → Nat
  | .level percent => l.levelPower percent
  | .stage k => l.stagePower k

/-! ## Finding slots -/

/-- The lowest slot in use whose entry satisfies a test. -/
def State.findSlot (s : State) (p : LoadEntry → Bool) : Option (Fin 32) :=
  allSlots.find? fun i => (s.slotAt i).entry.any p

/-- The compressor of a section (R27). -/
def State.compressorSlot (s : State) (x : BodySection) : Option (Fin 32) :=
  s.findSlot fun l => l.kind == .compressor && l.place == .body x

/-- The fan of a section (R27). -/
def State.fanSlot (s : State) (x : BodySection) : Option (Fin 32) :=
  s.findSlot fun l => l.kind == .fan && l.place == .body x

/-- The cab blower slot (R27). -/
def State.blowerSlot (s : State) : Option (Fin 32) := s.findSlot fun l => l.kind == .cabBlower

/-! ## Heat ladders (R32, R33) -/

/-- The heaters of R32. -/
def LoadKind.isHeater : LoadKind → Bool
  | .floorHeater => true
  | .roofHeater => true
  | .curtain => false
  | .compressor => false
  | .fan => false
  | .cabBlower => false
  | .film => false
  | .damper => false

/-- The power an entry with this portion gives its slot, absent where the slot takes none. -/
def SlotRec.ladderPower (r : SlotRec) (portion share : Nat) : Option Nat :=
  match r.entry with
  | none => none
  | some l =>
    if r.state = .ok ∧ l.kind.isHeater then presentPower (ceilDiv (l.rated * portion) share) else none

/-- The ladder entries from index `k` on, filled with the remaining demand (R32). -/
def State.fillLadder (s : State) (z : Fin 8) :
    Nat → Nat → List LadderEntry → List (Fin 32 × Nat)
  | _, _, [] => []
  | k, remaining, x :: rest =>
    let r := s.slotAt x.slot
    if r.owner = some (z, k) then
      let portion := min remaining x.share
      let later := s.fillLadder z (k + 1) (remaining - portion) rest
      match r.ladderPower portion x.share with
      | some power => (x.slot, power) :: later
      | none => later
    else s.fillLadder z (k + 1) remaining rest

/-- A zone's ladder contributions recomputed from the D last handed (R32). -/
def State.putLadder (s : State) (z : Fin 8) : State :=
  let zone := s.zoneAt z
  let given := s.fillLadder z 0 zone.lastD.toNat zone.entry.ladder
  s.mapAsks fun i r =>
    match given.find? (·.1 = i) with
    | some x => { r.asks with ladder := some { zone := z, power := x.2 } }
    | none =>
      if r.asks.ladder.any (·.zone = z) then { r.asks with ladder := none } else r.asks

/-- Every slot owned by the zone's previous ladder is released, with the zone's contribution to it
(R33 step 1). -/
def State.releaseLadder (s : State) (z : Fin 8) : State :=
  s.mapSlots fun _ r =>
    if r.owner.any (·.1 = z) then
      { r with
        owner := none
        asks := if r.asks.ladder.any (·.zone = z) then { r.asks with ladder := none } else r.asks }
    else r

/-- The entries of a newly adopted ladder claim their slots in loaded order; an entry whose slot is
owned already is disabled and its slot number recorded (R33 step 2). -/
def Event.claimLadder (e : Event) (z : Fin 8) : Nat → List LadderEntry → Event
  | _, [] => e
  | k, x :: rest =>
    let r := e.st.slotAt x.slot
    match r.owner with
    | none =>
      (e.map fun s => s.setSlot x.slot { r with owner := some (z, k) }).claimLadder z (k + 1) rest
    | some _ => (e.fault .tableInconsistent x.slot.val).claimLadder z (k + 1) rest

/-! ## Section cooling (R34, R35) -/

/-- The cooling demand C of a section (R34). -/
def State.coolingDemand (s : State) (x : BodySection) : Nat :=
  allZones.foldl
    (fun most z =>
      let r := s.zoneAt z
      if r.mode ≠ .off ∧ r.entry.part = x ∧ r.entry.cool then max most (-r.d).toNat else most)
    0

/-- A section suppressed by CLIMATE_OFF: none of its zones that is not OFF is the cab (R34). -/
def State.suppressed (s : State) (x : BodySection) : Bool :=
  let cab := s.zoneAt 0
  s.climateOff && !(cab.mode != .off && cab.entry.part == x)

/-- The cooling call after a recomputation (R34). -/
def nextCall (suppressed : Bool) (demand : Nat) (call : Bool) : Bool :=
  if suppressed then false
  else if 1500 ≤ demand then true
  else if demand < 500 then false
  else call

/-- C and the cooling call of every section recomputed (R34). -/
def State.recomputeDemand (s : State) : State :=
  allSections.foldl
    (fun t x =>
      let r := t.sectionAt x
      let demand := s.coolingDemand x
      t.setSection x { r with demand, call := nextCall (s.suppressed x) demand r.call })
    s

/-- The level section cooling asks of its compressor (R35). -/
def SectionRec.coolingLevel (x : SectionRec) : Option Nat :=
  match x.compressor with
  | none => none
  | some r =>
    if x.call then some (limitNat (x.demand / 100) 30 100)
    else if r.state = .runMin then some 30
    else none

/-- The section cooling contributions recomputed (R35). -/
def State.putCooling (s : State) : State :=
  s.mapAsks fun _ r =>
    { r.asks with
      cooling :=
        match r.entry with
        | some l =>
          match l.kind, l.place with
          | .compressor, .body x => l.askLevel (s.sectionAt x).coolingLevel
          | _, _ => none
        | none => none }

/-! ## Fans, cab blower and dampers (R40 to R42) -/

/-- The level that follows a demand: 20 percent and 80 more over its range (R40, R41). -/
def airLevel (m : Nat) : Nat := limitNat (20 + m * 80 / 10000) 20 100

/-- The saloon zones of a section that are not OFF (R40). -/
def State.airedZones (s : State) (x : BodySection) : List (Fin 8) :=
  allZones.filter fun z =>
    z != 0 && (s.zoneAt z).mode != .off && (s.zoneAt z).entry.part == x

/-- The level asked of a section's fan (R40). -/
def State.fanAsk (s : State) (x : BodySection) : Option Nat :=
  match s.fanLevel (.body x) with
  | some level => some level
  | none =>
    match s.airedZones x with
    | [] => none
    | zs => some (airLevel ((zs.map fun z => (s.zoneAt z).d.natAbs).foldl max 0))

/-- The fan contributions of the sections reached recomputed (R40, R121, log entry 23). -/
def State.putFansOf (s : State) (reached : BodySection → Bool) : State :=
  s.mapAsks fun _ r =>
    { r.asks with
      fan :=
        match r.entry with
        | some l =>
          match l.kind, l.place with
          | .fan, .body x => if reached x then l.askLevel (s.fanAsk x) else r.asks.fan
          | _, _ => none
        | none => none }

/-- The fan contribution of every section recomputed (R40). -/
def State.putFans (s : State) : State := s.putFansOf fun _ => true

/-- The level asked for the zone part of the cab blower (R41). -/
def State.blowerAsk (s : State) : Option Nat :=
  match s.fanLevel .cab with
  | some level => some level
  | none =>
    let cab := s.zoneAt 0
    if cab.mode = .off then none else some (airLevel cab.d.natAbs)

/-- The zone part of the cab blower contribution recomputed (R41). -/
def State.putBlower (s : State) : State :=
  s.mapAsks fun _ r =>
    { r.asks with
      blower :=
        match r.entry with
        | some l => if l.kind = .cabBlower then l.askLevel s.blowerAsk else none
        | none => none }

/-- The fresh-air percentage of the active band, 20 without one (R7, R42). -/
def State.freshAir (s : State) : Nat :=
  match s.zone.activeBand.bind (s.zone.schedule[·]?) with
  | some b => b.freshAir
  | none => 20

/-- The level of a damper (R42). -/
def State.damperLevel (s : State) (l : LoadEntry) : Nat :=
  let fp := if s.recirculates l.place then 0 else s.freshAir
  if fp < l.minLevel then 0 else fp

/-- The levels of the dampers of some places recomputed and commanded; they are 0 in FAULTED and
during the start-up hold (R42, R43). -/
def Event.putDampers (e : Event) (reached : LoadPlace → Bool) : Event :=
  allSlots.foldl
    (fun e i =>
      let r := e.st.slotAt i
      match r.entry with
      | some l =>
        if l.kind = .damper ∧ reached l.place then
          e.command i
            (if r.state = .faulted ∨ e.st.actuator.startHold then 0 else e.st.damperLevel l)
        else e
      | none => e)
    e

/-! ## Door curtains (R86, R87) -/

/-- The door is used (R77). -/
def DoorRec.used (d : DoorRec) : Bool := d.entry.zone.isSome

/-- The effective state is not CLOSED (R77). -/
def DoorRec.isOpen (d : DoorRec) : Bool := !d.stale && d.recorded != .closed

/-- The stage the thresholds choose (R86). -/
def DoorEntry.stageAt (d : DoorEntry) (outdoor : Int) : Nat :=
  if outdoor < d.t1 then 3 else if outdoor < d.t2 then 2 else if outdoor < d.t3 then 1 else 0

/-- The curtain stage of a door (R86). -/
def State.curtainStage (s : State) (d : Fin 8) : Nat :=
  let r := s.doorAt d
  if r.isOpen && r.recorded != .closing && !r.longOpen && !s.curtainOff d then
    r.entry.stageAt s.sample.outdoor
  else 0

/-- The curtain contribution of a door to a slot (R87). -/
def State.curtainPower (s : State) (d : Fin 8) (i : Fin 32) : Option Nat :=
  let r := s.doorAt d
  match (s.slotAt i).entry with
  | some l =>
    if r.used && r.entry.curtain == some i && l.kind == .curtain then
      presentPower (ceilDiv (l.rated * s.curtainStage d) 3)
    else none
  | none => none

/-- The curtain contribution of a door recomputed (R87). -/
def State.putCurtain (s : State) (d : Fin 8) : State :=
  s.mapAsks fun i r => { r.asks with curtain := r.asks.curtain.set d (s.curtainPower d i) }

/-! ## Glazing contributions (R102, R104) -/

/-- The treatment a panel's contributions follow: RUN_ON contributes as its origin does (R102). -/
def PanelRec.treatment (p : PanelRec) : Option RunOnOrigin :=
  match p.state with
  | .demist => some .demist
  | .defrost => some .defrost
  | .runOn => p.origin
  | .off => none
  | .watch => none

/-- The dehumidify contribution of a panel (R104). -/
def State.dehumidifyAsk (s : State) (p : Fin 4) : Option GlazingAsk :=
  if (s.panelAt p).treatment = some .demist ∧ 200 < s.sample.outdoor ∧ !s.lockedA then
    some (.level 30)
  else none

/-- The contribution of a panel to a slot (R102). -/
def State.glazingAsk (s : State) (p : Fin 4) (i : Fin 32) : Option GlazingAsk :=
  let r := s.panelAt p
  match (s.slotAt i).entry with
  | none => none
  | some l =>
    match l.kind with
    | .cabBlower =>
      match r.treatment with
      | some .demist => some (.level 70)
      | some .defrost => some (.level 100)
      | none => none
    | .film =>
      if r.entry.film = some i ∧ r.treatment = some .defrost then
        some (if l.stages = 0 then .level 100 else .stage 1)
      else none
    | .compressor => if l.place = .body .a then s.dehumidifyAsk p else none
    | .floorHeater => none
    | .roofHeater => none
    | .curtain => none
    | .fan => none
    | .damper => none

/-- A panel's contributions recomputed (R102). -/
def State.putGlazing (s : State) (p : Fin 4) : State :=
  s.mapAsks fun i r => { r.asks with glazing := r.asks.glazing.set p (s.glazingAsk p i) }

/-- Every panel's contributions recomputed (R102, R104). -/
def State.putPanels (s : State) : State :=
  s.mapAsks fun i r => { r.asks with glazing := Table.tabulate fun p => s.glazingAsk p i }

/-! ## Compressor records (R36 to R38) -/

/-- The record of a section's compressor changed, and the cooling contribution with it (R35). -/
def Event.setCompressor (e : Event) (x : BodySection) (r : CompressorRec) : Event :=
  e.map fun s => (s.setSection x { s.sectionAt x with compressor := some r }).putCooling

/-- The record goes to OFF_LOCKED and the lock is newly started. Every entry to OFF_LOCKED stops the
minimum run timer, and a change of a lock calls for a budget pass (R36, R38, R66). -/
def Event.lockCompressor (e : Event) (x : BodySection) (len : LockLength) : Event :=
  let entry := e.st.budget.entry
  let seconds :=
    match len with
    | .short => entry.shortLock
    | .long => entry.longLock
  (e.setCompressor x
    { state := .offLocked, lock := len, lockTimer := e.st.timer (1000 * seconds),
      minRunTimer := none }).callPass

/-- A compressor runs: RUN_MIN or RUN. -/
def CompressorRec.running (r : CompressorRec) : Bool := r.state == .runMin || r.state == .run

/-- A forced stop: it acts in RUN_MIN and RUN alike (R38). -/
def Event.forceStop (e : Event) (x : BodySection) (len : LockLength) : Event :=
  match (e.st.sectionAt x).compressor with
  | some r => if r.running then e.lockCompressor x len else e
  | none => e

/-- A compressor in OFF_READY that is given a nonzero level starts (R36). -/
def Event.startCompressor (e : Event) (x : BodySection) : Event :=
  match (e.st.sectionAt x).compressor with
  | some r =>
    if r.state = .offReady then
      e.setCompressor x
        { r with
          state := .runMin
          minRunTimer := e.st.timer (1000 * e.st.budget.entry.minimumRun) }
    else e
  | none => e

/-- The wanted speed W of a section's compressor is above 0: some contribution to it is present
(R35). -/
def State.wanted (s : State) (x : BodySection) : Bool :=
  match s.compressorSlot x with
  | some i =>
    let a := (s.slotAt i).asks
    a.cooling.isSome || a.glazing.any Option.isSome
  | none => false

/-- The stop on falling demand: in RUN with W at 0 (R37). -/
def Event.stopUnwanted (e : Event) (x : BodySection) : Event :=
  match (e.st.sectionAt x).compressor with
  | some r => if r.state = .run ∧ !e.st.wanted x then e.lockCompressor x .long else e
  | none => e

/-! ## Requests (R31, R66) -/

/-- The class of a ladder contribution (R30). -/
def LadderAsk.cls (x : LadderAsk) : Fin 4 := if x.zone = 0 then 1 else 3

/-- The present contributions to a slot, each with its class (R30). -/
def Asks.offers (a : Asks) (l : LoadEntry) : List (Nat × Fin 4) :=
  ((a.manual.toList.map fun p => (p, 0)) ++
    ((a.glazing.items.filterMap id).map fun x => (l.glazingPower x, 0)) ++
    (a.blower.toList.map fun p => (p, 1)) ++
    (a.ladder.toList.map fun (x : LadderAsk) => (x.power, x.cls)) ++
    ((a.curtain.items.filterMap id).map fun p => (p, 2)) ++
    (a.cooling.toList.map fun p => (p, 3)) ++
    (a.fan.toList.map fun p => (p, 3))).filter fun x => x.1 ≠ 0

/-- The largest contribution, and among equal ones the lowest class number; 0 at class 3 when none is
present (R31). -/
def strongest (offers : List (Nat × Fin 4)) : Nat × Fin 4 :=
  offers.foldl
    (fun best x => if best.1 < x.1 ∨ (best.1 = x.1 ∧ x.2 < best.2) then x else best) (0, 3)

/-- The compressor record that a slot's restart lock is in, when the slot is a compressor. -/
def State.slotLocked (s : State) (l : LoadEntry) : Bool :=
  match l.kind, l.place with
  | .compressor, .body x =>
    match (s.sectionAt x).compressor with
    | some r => r.state == .offLocked
    | none => true
  | _, _ => false

/-- The request and class of a slot (R31, log entry 6). -/
def State.formed (s : State) (i : Fin 32) : Nat × Fin 4 :=
  let r := s.slotAt i
  match r.entry with
  | none => (0, 3)
  | some l =>
    if r.state ≠ .ok ∨ l.kind = .damper then (0, 3)
    else if s.slotLocked l then (0, 3)
    else if r.manual then (l.rated, 0)
    else strongest (r.asks.offers l)

/-! ## Levels (R43) -/

/-- The stage or level a grant is converted to. -/
def LoadEntry.levelOf (l : LoadEntry) (grant : Nat) : Nat :=
  if l.stages = 0 then
    let level := grant * 100 / l.rated
    if level < l.minLevel then 0 else level
  else grant * l.stages / l.rated

/-- The level of a slot that is given commands, from its grant. -/
def State.levelFor (s : State) (i : Fin 32) (l : LoadEntry) : Nat :=
  if s.actuator.startHold ∨ (s.slotAt i).state ≠ .ok then 0 else l.levelOf (s.rowAt i).grant

/-- A compressor's record follows its slot's level and grant: a nonzero level starts it, and a grant
of 0 stops it with the long lock (R36, R38). -/
def Event.followGrant (e : Event) (i : Fin 32) (l : LoadEntry) (before : Nat) : Event :=
  match l.kind, l.place with
  | .compressor, .body x =>
    if (e.st.rowAt i).grant = 0 then e.forceStop x .long
    else if before = 0 ∧ (e.st.slotAt i).commanded ≠ 0 then e.startCompressor x
    else e
  | _, _ => e

/-- A written grant is handed to the actuator unit (R43, R72). -/
def Event.handGrant (e : Event) (i : Fin 32) : Event :=
  let r := e.st.slotAt i
  match r.entry with
  | none => e
  | some l =>
    if l.kind = .damper ∨ r.manual then e
    else (e.command i (e.st.levelFor i l)).followGrant i l r.commanded

/-! ## The write of a request (R66) -/

/-- A slot's request and class are written: a grant above the new request is lowered to it and handed
on; a rise calls for a budget pass, and a fall for the flags (R31, R66). -/
def Event.writeRequest (e : Event) (i : Fin 32) : Event :=
  let row := e.st.rowAt i
  let want := e.st.formed i
  if want = (row.request, row.cls) then e
  else
    let grant := min row.grant want.1
    let e1 := e.map fun s =>
      s.setRow i { request := want.1, cls := want.2, grant, limited := grant < want.1 }
    let e2 :=
      if row.request < want.1 ∨ row.cls ≠ want.2 then e1.callPass else { e1 with flagsDue := true }
    if grant < row.grant then e2.handGrant i else e2

/-- The compressors and the glazing unit follow the contributions of the event: stops on falling
demand, then the contributions of every panel where compressor A's lock condition changed (R37, R102,
R104). In the event of a LOADS adoption this comes after the conversion of R51 (log entry 35). -/
def Event.settleAsks (e : Event) : Event :=
  let e := allSections.foldl (fun e x => e.stopUnwanted x) e
  if e.st.lockedA = e.lockA then e
  else { e.map State.putPanels with lockA := e.st.lockedA }

/-- Every request is formed from the contributions of the event, in ascending slot order. -/
def Event.settleLoads (e : Event) : Event :=
  allSlots.foldl (fun e i => e.writeRequest i) e.settleAsks

/-! ## Hand-off (R20, R32, R34, R40, R41) -/

/-- A zone's demand is handed to the ladder and actuator unit: its ladder, section cooling, and the
section fans for a saloon zone or the cab blower for zone 0. -/
def Event.handOff (e : Event) (z : Fin 8) : Event :=
  e.map fun s =>
    let s := ((s.putLadder z).recomputeDemand).putCooling
    if z = 0 then s.putBlower else s.putFans

/-! ## Manual slots (R50) -/

/-- A manual take is granted. -/
def Event.takeSlot (e : Event) (i : Fin 32) : Event :=
  let r := e.st.slotAt i
  let rated := (r.entry.map LoadEntry.rated).getD 0
  ((e.map fun s =>
      s.setSlot i
        { r with
          manual := true
          commanded := 0
          refreshTimer := none
          asks := { r.asks with manual := presentPower rated } }).dropCommand i).callPass

/-- A manual slot is released: a command of level 0 is placed and its guarded frames leave the
forward queue. A slot that is not manual is left as it is. -/
def Event.releaseSlot (e : Event) (i : Fin 32) : Event :=
  let r := e.st.slotAt i
  if r.manual then
    ((e.map fun s =>
        { s.setSlot i
            { r with
              manual := false
              commanded := 0
              mismatch := 0
              asks := { r.asks with manual := none } } with
          path := s.path.dropGuarded i }).placeCommand i).callPass
  else e

/-- Every manual slot is released. -/
def Event.releaseSlots (e : Event) : Event := allSlots.foldl (fun e i => e.releaseSlot i) e

end Sys2Proof.Machine
end

