-- ==== Sys2Proof/Machine/Budget.lean ====
section
/-!
DEFINITION. The budget pass: the adoption of LOADS entries (R51), the allocation of each pool class by
class (R68 to R71), the flags it writes (R73), and the end of an event that changed contributions,
requests or levels (R66, R67).
-/

namespace Sys2Proof.Machine

/-! ## Allocation (R69 to R71) -/

/-- A request as a pool allocates it: its slot, class, manual reservation and minimum power. -/
structure PoolLoad where
  slot : Fin 32
  request : Nat
  cls : Fin 4
  manual : Bool
  minPower : Nat
  deriving DecidableEq, Repr

/-- The sum of the requests of a list. -/
def requested (loads : List PoolLoad) : Nat := (loads.map PoolLoad.request).sum

/-- A scaled grant: request × power / sum, rounded to floor, and 0 below the minimum power (R69 to
R71). -/
def PoolLoad.scaled (l : PoolLoad) (power sum : Nat) : Nat :=
  let g := l.request * power / sum
  if g < l.minPower then 0 else g

/-- The manual requests, served as a group of their own within class 0 (R70). -/
def manualLoads (loads : List PoolLoad) : List PoolLoad := loads.filter (·.manual)

/-- The requests of a class, without the manual ones (R69). -/
def classLoads (loads : List PoolLoad) (k : Fin 4) : List PoolLoad :=
  loads.filter fun l => !l.manual && l.cls == k

/-- What is asked of a pool before a class: the manual requests and the classes above it. -/
def askedBefore (loads : List PoolLoad) (k : Fin 4) : Nat :=
  requested (manualLoads loads) +
    ((allClasses.filter (· < k)).map fun j => requested (classLoads loads j)).sum
where
  allClasses : List (Fin 4) := [0, 1, 2, 3]

/-- The grant of a load from a pool's budget (R69 to R71): a group that fits in what is left is
granted in full, the first that does not is scaled, and every group after it is granted 0. -/
def poolGrant (budget : Nat) (loads : List PoolLoad) (l : PoolLoad) : Nat :=
  if l.manual then
    let m := requested (manualLoads loads)
    if m ≤ budget then l.request else l.scaled budget m
  else
    let before := askedBefore loads l.cls
    let sum := requested (classLoads loads l.cls)
    if budget < before then 0
    else if sum ≤ budget - before then l.request
    else l.scaled (budget - before) sum

/-- The slot takes part in allocation: it is not UNBOUND and not a damper (R65). -/
def SlotRec.participates (r : SlotRec) : Bool :=
  match r.entry with
  | some l => r.state != .unbound && l.kind != .damper
  | none => false

/-- The requests of a pool, in slot order (R68). -/
def State.poolLoads (s : State) (pool : Pool) : List PoolLoad :=
  allSlots.filterMap fun i =>
    let r := s.slotAt i
    match r.entry with
    | some l =>
      if r.participates && l.pool == pool then
        some
          { slot := i, request := (s.rowAt i).request, cls := (s.rowAt i).cls, manual := r.manual,
            minPower := l.minPower }
      else none
    | none => none

/-- The budget of a pool (R53). -/
def State.poolBudget (s : State) : Pool → Nat
  | .line => s.budget.lineBudget
  | .battery => s.budget.batteryBudget

/-- The grants of a pool, each with its slot. -/
def State.poolGrants (s : State) (pool : Pool) : List (Fin 32 × Nat) :=
  let loads := s.poolLoads pool
  loads.map fun l => (l.slot, poolGrant (s.poolBudget pool) loads l)

/-- A row with its grant written: a slot that takes no part has request and grant 0 (R65, R68). -/
def GrantRow.withGrant (row : GrantRow) (grant : Option Nat) : GrantRow :=
  match grant with
  | some g => { row with grant := g, limited := g < row.request }
  | none => { row with request := 0, cls := 3, grant := 0, limited := false }

/-- Both pools allocated, and the grants and limited flags of every slot written (R68 steps 2 and
3). -/
def State.allocate (s : State) : State :=
  let grants := s.poolGrants .line ++ s.poolGrants .battery
  { s with
    budget := { s.budget with
      rows := s.budget.rows.map fun i row =>
        row.withGrant ((grants.find? (·.1 = i)).map Prod.snd) } }

/-! ## Flags (R73) -/

/-- Some slot owned by an entry of the zone's ladder has a nonzero request and is limited. -/
def State.heatLimited (s : State) (z : Fin 8) : Bool :=
  allSlots.any fun i =>
    (s.slotAt i).owner.any (·.1 = z) && (s.rowAt i).request != 0 && (s.rowAt i).limited

/-- The zone is enabled with cool participation on, and the compressor of its section has a nonzero
request and is limited. -/
def State.coolLimited (s : State) (z : Fin 8) : Bool :=
  let r := s.zoneAt z
  r.entry.enabled && r.entry.cool &&
    match s.compressorSlot r.entry.part with
    | some i => (s.rowAt i).request != 0 && (s.rowAt i).limited
    | none => false

/-- The two limited flags of every zone record written (R73). -/
def State.putLimited (s : State) : State :=
  { s with
    zone := { s.zone with
      zones := s.zone.zones.map fun z r =>
        { r with heatLimited := s.heatLimited z, coolLimited := s.coolLimited z } } }

/-! ## Adoption of LOADS entries (R51) -/

/-- A load session is open on a segment. -/
def State.sessionOn (s : State) (seg : SegmentId) : Bool :=
  match s.agent.session with
  | some x => x.segment == seg
  | none => false

/-- The change of an entry that begins the slot again: kind, command stream, rated power, stages or
section (R51). -/
def loadRebinds (old new : LoadEntry) : Bool :=
  old.kind != new.kind || old.commandStream != new.commandStream || old.rated != new.rated ||
    old.stages != new.stages || old.place != new.place

/-- The asked glazing contributions that a changed entry keeps (R51, R106): those of a slot whose kind
stands. A slot of another kind, and a compressor of another section, is not the load they were asked of
(log entry 17). -/
def keptGlazing (old : Option LoadEntry) (new : LoadEntry) (asks : Asks) :
    Table 4 (Option GlazingAsk) :=
  match old with
  | some l =>
    if l.kind = new.kind ∧ (l.kind = .compressor → l.place = new.place) then asks.glazing
    else Table.fill 4 none
  | none => Table.fill 4 none

/-- A slot's entry adopted (R51). -/
def Event.adoptLoad (e : Event) (i : Fin 32) (new : Option LoadEntry) : Event :=
  let r := e.st.slotAt i
  let freed : Event → Event := fun e =>
    if r.manual then e.map fun s => { s with path := s.path.dropGuarded i } else e
  match new with
  | none =>
    if r.entry = none then e
    else
      freed
        ((e.map fun s =>
          s.setSlot i
            { r with
              entry := none
              state := .unbound
              manual := false
              commanded := 0
              echoed := none
              mismatch := 0
              refreshTimer := none
              asks := noAsks }).dropCommand i)
  | some l =>
    if r.entry.any fun old => !loadRebinds old l then
      e.map fun s => s.setSlot i { r with entry := new }
    else
      freed
        ((e.map fun s =>
          s.setSlot i
            { r with
              entry := new
              state := .ok
              manual := false
              commanded := 0
              echoed := none
              mismatch := 0
              asks := { r.asks with manual := none, glazing := keptGlazing r.entry l r.asks } }
          ).placeCommand i)

/-- The compressor slot of a section in an adopted table. -/
def tableCompressor (t : Table 32 (Option LoadEntry)) (x : BodySection) : Option (Fin 32) :=
  allSlots.find? fun i => (t.get i).any fun l => l.kind == .compressor && l.place == .body x

/-- The compressor slot of a section is bound, unbound or replaced by an adoption (R51, log entry 27). -/
def compressorTouched (s : State) (t : Table 32 (Option LoadEntry)) (x : BodySection) : Bool :=
  match s.compressorSlot x, tableCompressor t x with
  | none, none => false
  | some i, some j =>
    i != j ||
      match (s.slotAt i).entry, t.get i with
      | some old, some new => loadRebinds old new
      | _, _ => true
  | _, _ => true

/-- The compressor record of a section after an adoption: where its compressor slot is bound, unbound or
replaced it goes to OFF_LOCKED with the long lock started (R51). The record of a section left with no
compressor stands from then on (log entry 42). -/
def Event.rebindCompressor (e : Event) (touched : Bool) (x : BodySection) : Event :=
  if touched then e.lockCompressor x .long else e

/-- Every contribution recomputed with the entries adopted (R51, R87). -/
def State.recomputeAsks (s : State) : State :=
  let s := allZones.foldl (fun s z => s.putLadder z) s
  let s := ((s.recomputeDemand.putCooling).putFans).putBlower
  allDoors.foldl (fun s d => s.putCurtain d) s

/-- The requests formed without calling for a pass: they are allocated by the pass that adopts (R68
step 1). -/
def State.formRequests (s : State) : State :=
  { s with
    budget := { s.budget with
      rows := s.budget.rows.map fun i row =>
        { row with request := (s.formed i).1, cls := (s.formed i).2 } } }

/-- Pending LOADS contents adopted, and the contributions and requests formed again (R51, R68 step
1). The slots that R27 makes UNBOUND are recorded in ascending slot number, which R27 and R51 do not state
(DESIGN CHOICE, log entry 41). -/
def Event.adoptLoads (e : Event) : Event :=
  let read := readLoads (e.st.agent.contents.get SegmentId.loads)
  let touched := allSections.map fun x => (x, compressorTouched e.st read.1 x)
  let e := e.faults .tableInconsistent read.2
  let e := allSlots.foldl (fun e i => e.adoptLoad i (read.1.get i)) e
  let e := touched.foldl (fun e x => e.rebindCompressor x.2 x.1) e
  let e := e.map fun s =>
    { s with actuator := { s.actuator with loadsPending := false } }.recomputeAsks
  let e := (e.putDampers fun _ => true).settleAsks
  e.map State.formRequests

/-! ## The pass and the end of an event -/

/-- One budget pass (R68). -/
def Event.budgetPass (e : Event) : Event :=
  let e :=
    if e.st.actuator.loadsPending && !e.st.sessionOn SegmentId.loads then e.adoptLoads else e
  let e := e.map State.allocate
  allSlots.foldl (fun e i => if (e.st.slotAt i).participates then e.handGrant i else e) e

/-- At the end of the start-up hold every slot's level is computed from its grant (R28). -/
def Event.endHold (e : Event) : Event :=
  let e := allSlots.foldl (fun e i => e.handGrant i) e
  e.putDampers fun _ => true

/-- The loads at the end of an event: the requests, the single pass the event calls for, the levels
where the start-up hold ends, the requests that stops of the pass leave, and the flags (R28, R66,
R67, R73, log entry 13). -/
def Event.settlePower (e : Event) : Event :=
  let e := e.settleLoads
  let passed := e.passDue
  let e := if passed then e.budgetPass else e
  let e := if e.holdEnded then e.endHold else e
  let e := if passed || e.holdEnded then e.settleLoads else e
  if passed || e.flagsDue then e.map State.putLimited else e

/-- The end of an event that may have changed contributions, requests or levels. -/
def Event.finish (e : Event) : State := e.settlePower.done

end Sys2Proof.Machine
end

