-- ==== Sys2Proof/Machine/Actuator.lean ====
section
/-!
DEFINITION. The actuator unit's own events (sections 2.6 and 2.7): refresh and echo check, faulted
slots and their clearing, and echo frames.
-/

namespace Sys2Proof.Machine

/-- The mismatch count after the echo check of a refresh expiry (R47). -/
def SlotRec.checkedCount (r : SlotRec) (silent : Bool) : Nat :=
  match r.entry with
  | some l =>
    if r.state = .ok ∧ l.echoStream.isSome ∧ !silent then
      if r.echoed = some r.commanded then 0 else r.mismatch + 1
    else r.mismatch
  | none => r.mismatch

/-- The body section whose compressor a slot drives. -/
def SlotRec.compressorOf (r : SlotRec) : Option BodySection :=
  match r.entry with
  | some l =>
    match l.kind, l.place with
    | .compressor, .body x => some x
    | _, _ => none
  | none => none

/-- A slot enters FAULTED (R48). The change of its level and the refresh of its expiry are one command,
placed by the refresh (log entry 34). -/
def Event.faultSlot (e : Event) (i : Fin 32) : Event :=
  let r := e.st.slotAt i
  let e := e.map fun s => s.setSlot i { r with state := .faulted, commanded := 0 }
  let e := (e.raise .actuatorFault).fault .actuatorFault i.val
  match r.compressorOf with
  | some x => (e.forceStop x .long).callPass
  | none => e.callPass

/-- The echo check, and the entry to FAULTED that a third mismatch makes (R47, R48). -/
def Event.checkEcho (e : Event) (i : Fin 32) : Event :=
  let r := e.st.slotAt i
  let count := r.checkedCount e.st.path.plantSilent
  let e := e.map fun s => s.setSlot i { r with mismatch := count }
  if r.state = .ok ∧ r.mismatch < count ∧ 3 ≤ count then e.faultSlot i else e

/-- REFRESH_EXPIRY: the echo check, then a command with the level as it stands (R45). -/
def execRefreshExpiry (i : Fin 32) (s : State) : Answer :=
  onExpiry s (s.slotAt i).refreshTimer fun s =>
    (((Event.of s).checkEcho i).placeCommand i).finish

/-- The level an echo frame carries for a slot, absent where the slot ignores the frame (R46, R193).
-/
def SlotRec.echoOf (r : SlotRec) (f : Frame) : Option Nat :=
  match r.entry, f.payload with
  | some l, b :: _ =>
    if f.kind = .state ∧ r.state ≠ .unbound ∧ l.echoStream = some f.stream then some b.toNat
    else none
  | _, _ => none

/-- ECHO_FRAME: a taken echo sets the echoed level (R46). -/
def execEchoFrame (i : Fin 32) (f : Frame) (s : State) : Answer :=
  whenRunning s fun s =>
    let s := s.taken (.echoFrame i f)
    match (s.slotAt i).echoOf f with
    | some level => s.setSlot i { s.slotAt i with echoed := some level }
    | none => s

/-- ACTUATOR_CLEAR at the actuator unit: the result, and the event (R49, log entry 16). -/
def Event.clearActuator (e : Event) (i : Fin 32) : Result × Event :=
  let r := e.st.slotAt i
  match r.state with
  | .unbound => (.badState, e)
  | .ok => (.ok, e.map fun s => s.setSlot i { r with mismatch := 0 })
  | .faulted =>
    (.ok,
      (e.map fun s =>
        s.setSlot i { r with state := .ok, mismatch := 0, echoed := none }).callPass)

end Sys2Proof.Machine
end

