-- ==== Sys2Proof/Machine/Notices.lean ====
section
/-!
DEFINITION. The notice unit's own events (sections 9.4 to 9.6): clears, the console's acknowledgement,
the test source, the adoption of the NOTICE entry, and the clearing of the fault record.
-/

namespace Sys2Proof.Machine

/-- Service mode refuses clears: it is on, and its SERVICE_ENTER did not grant them (R169). -/
def State.clearsRefused (s : State) : Bool :=
  match s.agent.service with
  | some x => !x.allowClears
  | none => false

/-- A clear that is not refused: the named sources; both destinations are examined at the end of the
event (R166, R168, R170, R171). -/
def Event.clearNotices (e : Event) (named : BitVec 24) : Event :=
  { e.notice (e.st.notice.clear named) with cleared := true }

/-- The sources an acknowledgement reaches: enabled for CAB and not for DEPOT (R170). -/
def NoticeUnit.acknowledged (n : NoticeUnit) : BitVec 24 := n.entry.cabMask &&& ~~~n.entry.depotMask

/-- ACK_NOTICES from the console (R170). -/
def execAckNotices (s : State) : Answer :=
  whenRunning s fun s =>
    let s := s.taken .ackNotices
    if s.clearsRefused then s
    else ((Event.of s).clearNotices s.notice.acknowledged).done

/-- NOTICE_CLEAR at the notice unit: the result, and the event (R168, R169). -/
def Event.noticeClear (e : Event) (named : BitVec 24) : Result × Event :=
  if e.st.clearsRefused then (.refusedAccess, e) else (.ok, e.clearNotices named)

/-- NOTICE contents adopted; the destinations are examined at the end of the event (R172). -/
def Event.adoptNotice (e : Event) : Event :=
  let entry := readNotice (entryAt (e.st.agent.contents.get SegmentId.notice) 0)
  { e.map fun s => { s with notice := { s.notice with entry } } with noticeAdopted := true }

/-- FAULT_CLEAR empties the record (R175); a fault that the budget pass of its event records stands after it
(log entry 39). -/
def Event.clearFault (e : Event) : Event :=
  e.map fun s => { s with notice := { s.notice with record := none } }

/-- The record as FAULT_READ returns it (R175, R194). -/
def faultBytes : Option FaultRec → List Byte
  | none => [0]
  | some r =>
    [if r.further then 3 else 1, r.code.code, byteOf r.index] ++ bytes32 r.time ++ [r.supply.code]

end Sys2Proof.Machine
end

