-- ==== Sys2Proof/Machine/Doors.lean ====
section
/-!
DEFINITION. The door unit's events (chapter 4): door frames, steps, stale streams, hold-over, the
draft dose and the draft term, and the adoption of door entries.
-/

namespace Sys2Proof.Machine

/-! ## The draft term (R83) -/

/-- A used door's part of its zone's draft term. -/
def DoorRec.part (d : DoorRec) (kg : Nat) : Nat :=
  let part := kg * d.dose / 256
  if d.longOpen then min 3000 part else part

/-- The draft term of a zone: the largest part over its doors, at most 10000 (R83). -/
def State.draftTerm (s : State) (z : Fin 8) : Nat :=
  let kg := (s.zoneAt z).entry.kg
  let parts := allDoors.filterMap fun d =>
    let r := s.doorAt d
    if r.entry.zone = some z then some (r.part kg) else none
  min 10000 (parts.foldl max 0)

/-- The draft term recomputed and written into the zone record (R83). -/
def State.putDraft (s : State) (z : Fin 8) : State :=
  s.setZone z { s.zoneAt z with g := s.draftTerm z }

/-! ## Door hold (R84, R85) -/

/-- The door hold flag of a zone written (R84). -/
def State.setHold (s : State) (z : Fin 8) (on : Bool) : State :=
  s.setZone z { s.zoneAt z with doorHold := on }

/-- Some door of the zone is holding (R84). -/
def State.zoneHeld (s : State) (z : Fin 8) : Bool :=
  s.door.doors.any fun d => d.entry.zone == some z && d.holding

/-- A door becomes holding: its zone's hold-over timer is stopped and door hold set (R84). -/
def State.beginHold (s : State) (d : Fin 8) (z : Fin 8) : State :=
  ((s.setDoor d { s.doorAt d with holding := true }).setHoldOver z none).setHold z true

/-- A holding door ceases to hold with hold-over: unless another door of the zone holds, the hold-over
timer is started, and a hold-over of 0 clears door hold at once (R84, R85). -/
def State.endHold (s : State) (d : Fin 8) (z : Fin 8) (holdOver : Nat) : State :=
  let s := s.setDoor d { s.doorAt d with holding := false }
  if s.zoneHeld z then s
  else if holdOver = 0 then (s.setHoldOver z none).setHold z false
  else s.setHoldOver z (s.timer (1000 * holdOver))

/-- A door that becomes long-open ceases to hold without hold-over (R84). -/
def State.dropHold (s : State) (d : Fin 8) (z : Fin 8) : State :=
  let s := s.setDoor d { s.doorAt d with holding := false }
  if s.zoneHeld z || (s.holdOverAt z).isSome then s else s.setHold z false

/-! ## Openings (R79) and the long-open limit (R82) -/

/-- A door begins an opening (R79). -/
def State.beginOpening (s : State) (d z : Fin 8) : State :=
  let r := s.doorAt d
  (s.setDoor d { r with rampSeen := r.recorded == .ramp }).beginHold d z

/-- A door ends its opening (R79). -/
def State.endOpening (s : State) (d z : Fin 8) : State :=
  let r := s.doorAt d
  let s := s.setDoor d { r with openTime := 0, rampSeen := false, longOpen := false }
  let s := if r.longOpen then s.putDraft z else s
  if r.holding then s.endHold d z r.entry.holdOver else s

/-- The long-open limit in force, in milliseconds (R82). -/
def DoorRec.limit (d : DoorRec) : Nat :=
  1000 * (if d.rampSeen then d.entry.rampLimit else d.entry.longOpen)

/-- The long-open test of an open door, and what follows when it is passed (R82). -/
def State.testLongOpen (s : State) (d z : Fin 8) : State :=
  let r := s.doorAt d
  if !r.longOpen ∧ r.limit ≤ r.openTime then
    ((s.setDoor d { r with longOpen := true }).dropHold d z).putDraft z
  else s

/-! ## Door frames (R78) -/

/-- The state value of a door payload, absent for an undefined encoding (R193). -/
def doorStateOf (payload : List Byte) : Option DoorState :=
  match payload with
  | [] => none
  | b :: _ =>
    match b.toNat with
    | 0 => some .closed
    | 1 => some .opening
    | 2 => some .opened
    | 3 => some .closing
    | 4 => some .ramp
    | _ => none

/-- A valid door frame for a used door (R78). -/
def State.reportDoor (s : State) (d z : Fin 8) (value : DoorState) : State :=
  let before := s.doorAt d
  let s := s.setDoor d { before with stale := false, recorded := value }
  match before.isOpen, (s.doorAt d).isOpen with
  | false, true => s.beginOpening d z
  | true, false => s.endOpening d z
  | true, true =>
    if value = .ramp then (s.setDoor d { s.doorAt d with rampSeen := true }).testLongOpen d z else s
  | false, false => s

/-- The event in which a door frame is taken (R78). -/
def takeDoorFrame (s : State) (d : Fin 8) (f : Frame) : State :=
  match (s.doorAt d).entry.zone with
  | none => s
  | some z =>
    if f.kind ≠ .state then s
    else
      match doorStateOf f.payload with
      | none => ((Event.of s).fault .doorStateInvalid d.val).done
      | some value => ((Event.of s).map fun s => (s.reportDoor d z value).putCurtain d).finish

/-- DOOR_FRAME (R78). -/
def execDoorFrame (d : Fin 8) (f : Frame) (s : State) : Answer :=
  whenRunning s fun s => takeDoorFrame (s.taken (.doorFrame d f)) d f

/-! ## Stale door streams (R88) -/

/-- The event in which a freshness expiry is taken for a door (R88). -/
def takeDoorStale (s : State) (d : Fin 8) : State :=
  match (s.doorAt d).entry.zone with
  | none => s
  | some z =>
    let r := s.doorAt d
    let e := (Event.of s).map fun s =>
      let s := s.setDoor d { r with stale := true }
      let s := if r.isOpen then s.endOpening d z else s
      s.putCurtain d
    (e.raise .doorStateLost).finish

/-- DOOR_STALE (R88). -/
def execDoorStale (d : Fin 8) (s : State) : Answer :=
  whenRunning s fun s => takeDoorStale (s.taken (.doorStale d)) d

/-! ## Adoption of door entries (R89) -/

/-- The record of a door that becomes unused or used: its reset values under the new entry, with its
step timer kept (R77, R89). -/
def DoorRec.renewed (d : DoorRec) (entry : DoorEntry) : DoorRec :=
  { resetDoor entry with stepTimer := d.stepTimer }

/-- The door leaves a zone for another: it ceases to hold the old zone, its dose falls to 0, and while
it is open and not long-open it holds the new zone (R89, log entry 19). -/
def State.moveDoor (s : State) (d old new : Fin 8) (entry : DoorEntry) : State :=
  let r := s.doorAt d
  let s := if r.holding then s.endHold d old r.entry.holdOver else s
  let s := s.setDoor d { s.doorAt d with entry, dose := 0, adoptPending := false }
  let s := s.putDraft old
  if r.isOpen && !r.longOpen then s.beginHold d new else s

/-- The entry of a door adopted, by what changed (R89). A holding door that becomes unused ends its
opening with the hold-over of its old entry (log entry 19). -/
def State.applyDoor (s : State) (d : Fin 8) (entry : DoorEntry) : State :=
  let r := s.doorAt d
  match r.entry.zone, entry.zone with
  | some old, none =>
    let s := if r.isOpen then s.endOpening d old else s
    ((s.setDoor d ((s.doorAt d).renewed entry)).putCurtain d).putDraft old
  | some old, some new =>
    if old = new then s.setDoor d { r with entry, adoptPending := false }
    else s.moveDoor d old new entry
  | none, _ => s.setDoor d (r.renewed entry)

/-- Pending DOORS contents adopted for a door (R76, R89). -/
def Event.adoptDoor (e : Event) (d : Fin 8) : Event :=
  if (e.st.doorAt d).adoptPending && !e.st.sessionOn SegmentId.doors then
    let read := readDoor (entryAt (e.st.agent.contents.get SegmentId.doors) d.val)
    (e.faults .tableInconsistent (failures d.val read.2)).map fun s => s.applyDoor d read.1
  else e

/-! ## The door step (R80, R81) -/

/-- The dose after a step (R81). -/
def DoorRec.nextDose (d : DoorRec) (ts outdoor : Int) : Nat :=
  if d.isOpen then
    if d.longOpen then d.dose
    else min 10000 (d.dose + (clamp (divTowardZero (ts - outdoor) 16) 0 400).toNat)
  else d.dose - d.entry.decay

/-- Steps 2 to 5 of a door step (R80). -/
def State.stepDoor (s : State) (d z : Fin 8) : State :=
  let r := s.doorAt d
  let s :=
    if r.isOpen && !r.longOpen then
      (s.setDoor d { r with openTime := r.openTime + 500 }).testLongOpen d z
    else s
  let r := s.doorAt d
  let s := s.setDoor d { r with dose := r.nextDose (s.zoneAt z).ts s.sample.outdoor }
  (s.putCurtain d).putDraft z

/-- DOOR_STEP (R80). -/
def execDoorStep (d : Fin 8) (s : State) : Answer :=
  onExpiry s (s.doorAt d).stepTimer fun s =>
    let e := (Event.of s).map fun s => s.setDoor d { s.doorAt d with stepTimer := s.timer 500 }
    let e := e.adoptDoor d
    let e :=
      match (e.st.doorAt d).entry.zone with
      | some z => e.map fun s => s.stepDoor d z
      | none => e
    e.finish

/-- HOLD_OVER_EXPIRY (R85). -/
def execHoldOverExpiry (z : Fin 8) (s : State) : Answer :=
  onExpiry s (s.holdOverAt z) fun s =>
    let s := s.setHoldOver z none
    if s.zoneHeld z then s else s.setHold z false

end Sys2Proof.Machine
end

