-- ==== Sys2Proof/Machine/Samples.lean ====
section
/-!
DEFINITION. The sample unit's events (chapter 7): samples and their quality, silence, forcing, the
outdoor value, and the adoption of channel entries.
-/

namespace Sys2Proof.Machine

/-! ## The value of a channel (R128) -/

/-- The value a channel's consumers read, absent while the channel is not usable (R128). -/
def ChannelRec.value (c : ChannelRec) : Option Int :=
  match c.quality with
  | .fresh => c.held
  | .stale => c.held
  | .forced => c.forced
  | .absent => none
  | .lost => none
  | .implausible => none

/-- The channel is in use: its adopted quantity is not unused (R127). -/
def ChannelRec.used (c : ChannelRec) : Bool := c.entry.quantity.isSome

/-! ## Entry into a quality (R136) -/

/-- The record that enters FRESH with this held value and slewing flag. -/
def ChannelRec.toFresh (c : ChannelRec) (held : Int) (slewing : Bool) : ChannelRec :=
  { c with quality := .fresh, held := some held, slewing, plausibleCount := 0, staleTimer := none }

/-- The record that enters STALE with its timer started. -/
def ChannelRec.toStale (c : ChannelRec) (timer : Timer) : ChannelRec :=
  { c with quality := .stale, staleTimer := timer }

/-- The record that enters LOST. -/
def ChannelRec.toLost (c : ChannelRec) : ChannelRec :=
  { c with quality := .lost, slewing := false, staleTimer := none }

/-- The record that enters IMPLAUSIBLE. -/
def ChannelRec.toImplausible (c : ChannelRec) : ChannelRec :=
  { c with quality := .implausible, slewing := false, plausibleCount := 0, staleTimer := none }

/-- The record in FORCED with this forced value. -/
def ChannelRec.toForced (c : ChannelRec) (value : Int) : ChannelRec :=
  { c with
    quality := .forced
    forced := some value
    slewing := false
    plausibleCount := 0
    staleTimer := none }

/-- The record that enters ABSENT under an entry. -/
def ChannelRec.toAbsent (_ : ChannelRec) (entry : ChannelEntry) : ChannelRec := resetChannel entry

/-! ## The outdoor value (R139, R140) -/

/-- The outdoor sources: the first three channels of quantity OUTDOOR. -/
def State.outdoorSources (s : State) : List (Fin 48) :=
  (allChannels.filter fun c => (s.channelAt c).entry.quantity == some .outdoor).take 3

/-- The median of three values. -/
def median (a b c : Int) : Int := max (min a b) (min (max a b) c)

/-- The outdoor value derived from the sources that count, absent when none counts. -/
def outdoorOf : List Int → Option Int
  | [] => none
  | [a] => some a
  | [a, b] => some (divTowardZero (a + b) 2)
  | a :: b :: c :: _ => some (median a b c)

/-- The outdoor value, OUTDOOR_UNKNOWN and the existed flag recomputed. -/
def State.putOutdoor (s : State) : State :=
  match outdoorOf (s.outdoorSources.filterMap fun c => (s.channelAt c).value) with
  | some v =>
    { s with
      sample := { s.sample with outdoor := v, outdoorUnknown := false, outdoorExisted := true } }
  | none =>
    { s with
      sample := { s.sample with
        outdoor := if s.sample.outdoorExisted then s.sample.outdoor
          else s.budget.entry.outdoorFallback
        outdoorUnknown := true } }

/-- A channel's record changed, and the outdoor value with it where the channel is a source. -/
def State.moveChannel (s : State) (c : Fin 48) (r : ChannelRec) : State :=
  let s := s.setChannel c r
  if s.outdoorSources.contains c then s.putOutdoor else s

/-! ## Samples (R129 to R133) -/

/-- The scaled value of a raw value (R129). -/
def ChannelEntry.scale (e : ChannelEntry) (raw : Int) : Int :=
  divTowardZero (raw * e.gain) 1024 + e.offset

/-- The scaled value is plausible (R130). -/
def ChannelEntry.plausible (e : ChannelEntry) (x : Int) : Bool := e.low ≤ x ∧ x ≤ e.high

/-- The new held value and slewing flag of the slew clamp (R132). -/
def slewClamp (step : Nat) (held scaled : Int) : Int × Bool :=
  if step = 0 ∨ (scaled - held).natAbs ≤ step then (scaled, false)
  else if held < scaled then (held + step, true)
  else (held - step, true)

/-- A plausible sample in a quality that is used: the held value moves by the slew clamp. -/
def ChannelRec.slewed (c : ChannelRec) (scaled : Int) : ChannelRec :=
  match c.held with
  | some held =>
    let moved := slewClamp c.entry.maxStep held scaled
    c.toFresh moved.1 moved.2
  | none => c.toFresh scaled false

/-- The record after a plausible sample (R131, R133). -/
def ChannelRec.plausibleSample (c : ChannelRec) (scaled : Int) : ChannelRec :=
  match c.quality with
  | .absent => c.toFresh scaled false
  | .fresh => c.slewed scaled
  | .stale => c.slewed scaled
  | .lost => c.toFresh scaled false
  | .implausible =>
    if c.plausibleCount + 1 < 3 then { c with plausibleCount := c.plausibleCount + 1 }
    else c.toFresh scaled false
  | .forced => c

/-- A channel enters IMPLAUSIBLE, with the notice and the fault (R136). -/
def Event.enterImplausible (e : Event) (c : Fin 48) : Event :=
  ((e.map fun s => s.moveChannel c (s.channelAt c).toImplausible).raise .channelImplausible).fault
    .channelImplausible c.val

/-- An implausible sample (R131). -/
def Event.implausibleSample (e : Event) (c : Fin 48) : Event :=
  match (e.st.channelAt c).quality with
  | .absent => e.enterImplausible c
  | .fresh => e.enterImplausible c
  | .stale => e.enterImplausible c
  | .lost => e.enterImplausible c
  | .implausible =>
    e.map fun s => s.moveChannel c { s.channelAt c with plausibleCount := 0 }
  | .forced => e

/-- The raw value of a sample frame that the unit does not ignore (R129). -/
def sampleRaw (f : Frame) : Option Int :=
  if f.kind = .sample ∧ 2 ≤ f.payload.length then some (s16At f.payload 0) else none

/-- The event in which a sample frame is taken (R129, R131). -/
def takeSample (s : State) (c : Fin 48) (f : Frame) : State :=
  let r := s.channelAt c
  match sampleRaw f with
  | none => s
  | some raw =>
    if !r.used ∨ r.quality = .forced then s
    else
      let x := r.entry.scale raw
      if r.entry.plausible x then
        ((Event.of s).map fun s => s.moveChannel c (r.plausibleSample x)).done
      else ((Event.of s).implausibleSample c).done

/-- SAMPLE_FRAME (R129 to R133). -/
def execSampleFrame (c : Fin 48) (f : Frame) (s : State) : Answer :=
  whenRunning s fun s => takeSample (s.taken (.sampleFrame c f)) c f

/-! ## Silence (R134, R135) -/

/-- A channel enters LOST, with the notice (R136). -/
def Event.enterLost (e : Event) (c : Fin 48) : Event :=
  (e.map fun s => s.moveChannel c (s.channelAt c).toLost).raise .channelLost

/-- The event in which a freshness expiry is taken for a channel (R134). -/
def takeChannelExpiry (s : State) (c : Fin 48) : State :=
  let r := s.channelAt c
  if !r.used then s
  else
    match r.quality with
    | .fresh =>
      if r.entry.grace = 0 then ((Event.of s).enterLost c).done
      else
        ((Event.of s).map fun s =>
          s.moveChannel c (r.toStale (s.timer (1000 * r.entry.grace)))).done
    | .implausible => s.setChannel c { r with plausibleCount := 0 }
    | .stale => s
    | .absent => s
    | .lost => s
    | .forced => s

/-- CHANNEL_FRESHNESS_EXPIRY (R134, R135). -/
def execChannelFreshnessExpiry (c : Fin 48) (s : State) : Answer :=
  whenRunning s fun s => takeChannelExpiry (s.taken (.channelFreshnessExpiry c)) c

/-- STALE_TIMER_EXPIRY: the channel enters LOST (R135). -/
def execStaleTimerExpiry (c : Fin 48) (s : State) : Answer :=
  onExpiry s (s.channelAt c).staleTimer fun s => ((Event.of s).enterLost c).done

/-! ## Forcing (R137, R138) -/

/-- FORCE_CHANNEL at the sample unit: the result, and the event (R137). -/
def Event.forceChannel (e : Event) (channel : Nat) (value : Int) : Result × Event :=
  if h : channel < 48 then
    let c : Fin 48 := ⟨channel, h⟩
    let r := e.st.channelAt c
    if e.st.agent.service.isNone ∨ !r.used then (.badState, e)
    else
      (.ok, e.map fun s =>
        s.moveChannel c (r.toForced (clamp value r.entry.low r.entry.high)))
  else (.badRange, e)

/-- RELEASE_CHANNEL at the sample unit: the result, and the event (R138). -/
def Event.releaseChannel (e : Event) (channel : Nat) : Result × Event :=
  if h : channel < 48 then
    let c : Fin 48 := ⟨channel, h⟩
    let r := e.st.channelAt c
    if r.quality = .forced then
      (.ok, e.map fun s => s.moveChannel c (r.toAbsent r.entry))
    else (.badState, e)
  else (.badRange, e)

/-- Every forced channel is released, and the outdoor value is recomputed once where a source was among
them (R138, R140, R186). -/
def State.releaseChannels (s : State) : State :=
  let t := { s with
    sample := { s.sample with
      channels := s.sample.channels.map fun _ r =>
        if r.quality = .forced then r.toAbsent r.entry else r } }
  if s.outdoorSources.any fun c => (s.channelAt c).quality == .forced then t.putOutdoor else t

/-! ## Adoption of channel entries (R141) -/

/-- A channel's entry adopted: a channel whose entry differs enters ABSENT. -/
def Event.adoptChannel (e : Event) (c : Fin 48) : Event :=
  let read := readChannel (entryAt (e.st.agent.contents.get SegmentId.channels) c.val)
  let e := e.faults .tableInconsistent (failures c.val read.2)
  let r := e.st.channelAt c
  if r.entry = read.1 then e else e.map fun s => s.setChannel c (r.toAbsent read.1)

/-- CHANNELS contents adopted (R141). Failed checks are recorded in ascending channel number, which R141 does
not state (DESIGN CHOICE, log entry 41). -/
def Event.adoptChannels (e : Event) : Event :=
  (allChannels.foldl (fun e c => e.adoptChannel c) e).map State.putOutdoor

end Sys2Proof.Machine
end

