-- ==== Sys2Proof/Machine/Glazing.lean ====
section
/-!
DEFINITION. The glazing unit's events (chapter 5): dew point, fog margin and ice test, the panel
states, the zone 0 flags, and the adoption of panel entries and of the depression table.
-/

namespace Sys2Proof.Machine

/-! ## Dew point and glass temperature (R94 to R96) -/

/-- The value of a channel that a panel may use: the channel is present, of this quantity, and usable
(R90, R94). -/
def State.panelReading (s : State) (c : Option (Fin 48)) (q : Quantity) : Option Int :=
  c.bind fun c =>
    let r := s.channelAt c
    if r.entry.quantity = some q then r.value else none

/-- The cab humidity, limited (R94). -/
def State.humidity (s : State) (e : PanelEntry) : Option Nat :=
  (s.panelReading e.humidity .humidity).map fun v => (clamp v 0 10000).toNat

/-- The depression at 20 °C, interpolated (R95 step 1). -/
def depression20 (dew : Table 11 Nat) (rh : Nat) : Int :=
  let i := rh / 1000
  let d (k : Nat) : Int := dew.items.getD k 0
  if i < 10 then d i + divTowardZero ((d (i + 1) - d i) * (rh - 1000 * i : Nat)) 1000 else d 10

/-- The dew point (R95). -/
def dewPoint (dew : Table 11 Nat) (rh : Nat) (ta : Int) : Int :=
  let c := clamp (256 + divTowardZero (3 * (ta - 2000)) 100) 192 320
  ta - divTowardZero (depression20 dew rh * c) 256

/-- The glass temperature (R96). -/
def glassTemperature (glass ta : Option Int) (outdoor : Int) (k : Nat) : Int :=
  match glass, ta with
  | some v, _ => v
  | none, some ta => outdoor + divTowardZero ((ta - outdoor) * k) 256
  | none, none => outdoor

/-- What an evaluation computes: the fog margin M, absent without a cab temperature or a humidity, and
the ice test (R94, R96). -/
structure Reading where
  margin : Option Int
  ice : Bool
  deriving DecidableEq, Repr

/-- The inputs of an evaluation read and computed (R93 step 3). -/
def State.panelInputs (s : State) (e : PanelEntry) : Reading :=
  let ta := (s.zoneAt 0).tm
  let to_ := s.sample.outdoor
  let tg := glassTemperature (s.panelReading e.glass .glass) ta to_ e.k
  { margin :=
      match ta, s.humidity e with
      | some ta, some rh => some (tg - dewPoint s.glazing.dew rh ta)
      | _, _ => none
    ice := tg ≤ 0 ∧ to_ ≤ 0 }

/-! ## The zone 0 flags (R103) -/

/-- The panel holds the glazing boost: DEMIST, DEFROST or RUN_ON (R103). -/
def PanelRec.boosts (p : PanelRec) : Bool := p.entry.enabled && p.treatment.isSome

/-- The panel holds the defrost floor: DEFROST, or RUN_ON with origin DEFROST (R103). -/
def PanelRec.floors (p : PanelRec) : Bool := p.entry.enabled && p.treatment == some .defrost

/-- Both flags of zone 0 re-evaluated (R103). -/
def State.putFlags (s : State) : State :=
  s.setZone 0
    { s.zoneAt 0 with
      boost := s.glazing.panels.any PanelRec.boosts
      floor := s.glazing.panels.any PanelRec.floors }

/-- A set of the defrost floor is written: zone 0's D is raised to 6000 at once, and handed off
(R21, R103). -/
def Event.setFloor (e : Event) : Event :=
  let r := e.st.zoneAt 0
  if r.mode ≠ .off ∧ r.d < 6000 then
    (e.map fun s => s.setZone 0 { r with floor := true, d := 6000, lastD := 6000 }).handOff 0
  else e.map fun s => s.setZone 0 { r with floor := true }

/-! ## Panel states (R97 to R100) -/

/-- A panel's record changed, with its contributions and the zone 0 flags (R102, R103). -/
def State.movePanel (s : State) (p : Fin 4) (r : PanelRec) : State :=
  ((s.setPanel p r).putGlazing p).putFlags

/-- The record in DEMIST, with its escalate timer started (R98). -/
def PanelRec.toDemist (r : PanelRec) (escalate : Timer) : PanelRec :=
  { r with state := .demist, origin := none, escalateTimer := escalate, runOnTimer := none }

/-- The record in DEFROST (R100). -/
def PanelRec.toDefrost (r : PanelRec) : PanelRec :=
  { r with state := .defrost, origin := none, escalateTimer := none, runOnTimer := none }

/-- The record in WATCH. -/
def PanelRec.toWatch (r : PanelRec) : PanelRec :=
  { r with state := .watch, origin := none, escalateTimer := none, runOnTimer := none }

/-- The record in OFF (R106). -/
def PanelRec.toOff (r : PanelRec) : PanelRec :=
  { r with state := .off, origin := none, escalateTimer := none, runOnTimer := none }

/-- The record that enters RUN_ON from a state; a run-on of 0 enters WATCH directly (R99). -/
def PanelRec.toRunOn (r : PanelRec) (origin : RunOnOrigin) (runOn : Timer) : PanelRec :=
  if r.entry.runOn = 0 then r.toWatch
  else
    { r with state := .runOn, origin := some origin, escalateTimer := none, runOnTimer := runOn }

/-- A panel enters DEFROST, with the set of the floor (R100). -/
def Event.enterDefrost (e : Event) (p : Fin 4) : Event :=
  (e.map fun s => s.movePanel p (s.panelAt p).toDefrost).setFloor

/-- A panel stays in DEFROST or enters it (R97 cases 1 and 2). -/
def Event.holdDefrost (e : Event) (p : Fin 4) : Event :=
  if (e.st.panelAt p).state = .defrost then e.map fun s => s.movePanel p (s.panelAt p)
  else e.enterDefrost p

/-- The adopted escalate time as a timer. -/
def State.escalateTime (s : State) (r : PanelRec) : Timer := s.timer (1000 * r.entry.escalate)

/-- The adopted run-on time as a timer. -/
def State.runOnTime (s : State) (r : PanelRec) : Timer := s.timer (1000 * r.entry.runOn)

/-- The transition for the present state (R97 case 3). -/
def State.nextPanel (s : State) (r : PanelRec) (margin : Option Int) : PanelRec :=
  let e := r.entry
  match r.state with
  | .off => r
  | .watch => if margin.any (· < e.marginOn) then r.toDemist (s.escalateTime r) else r
  | .demist =>
    match margin with
    | none => r
    | some m =>
      if e.marginOff ≤ m then r.toRunOn .demist (s.runOnTime r)
      else if e.marginOn ≤ m then { r with escalateTimer := s.escalateTime r }
      else r
  | .defrost =>
    if margin.all (e.marginOff ≤ ·) then r.toRunOn .defrost (s.runOnTime r) else r
  | .runOn => if margin.any (· < e.marginOn) then r.toDemist (s.escalateTime r) else r

/-- Steps 4 to 6 of an evaluation (R93). -/
def Event.movePanelBy (e : Event) (p : Fin 4) (x : Reading) : Event :=
  if e.st.defrostNow p || x.ice then e.holdDefrost p
  else e.map fun s => s.movePanel p (s.nextPanel (s.panelAt p) x.margin)

/-! ## Adoption (R91, R106) -/

/-- Pending DEWPOINT contents adopted (R91). -/
def State.adoptDew (s : State) : State :=
  if s.glazing.dewPending && !s.sessionOn SegmentId.dewpoint then
    { s with
      glazing := { s.glazing with
        dew := readDew (s.agent.contents.get SegmentId.dewpoint), dewPending := false } }
  else s

/-- A panel's record under a new entry (R106). -/
def PanelRec.adopt (r : PanelRec) (entry : PanelEntry) : PanelRec :=
  let new := { r with entry, adoptPending := false }
  if !entry.enabled then new.toOff else if !r.entry.enabled then new.toWatch else new

/-- Pending GLAZING contents adopted for a panel (R106). -/
def Event.adoptPanel (e : Event) (p : Fin 4) : Event :=
  if (e.st.panelAt p).adoptPending && !e.st.sessionOn SegmentId.glazing then
    let read := readPanel (entryAt (e.st.agent.contents.get SegmentId.glazing) p.val)
    (e.faults .tableInconsistent (failures p.val read.2)).map fun s =>
      s.movePanel p ((s.panelAt p).adopt read.1)
  else e

/-! ## The commands -/

/-- The steps of an evaluation (R93). -/
def Event.evaluate (e : Event) (p : Fin 4) : Event :=
  let e := (e.map State.adoptDew).adoptPanel p
  let r := e.st.panelAt p
  if r.state = .off then e else e.movePanelBy p (e.st.panelInputs r.entry)

/-- PANEL_EVALUATION (R92, R93). -/
def execPanelEvaluation (p : Fin 4) (s : State) : Answer :=
  onExpiry s (s.panelAt p).evalTimer fun s =>
    let e := (Event.of s).map fun s =>
      s.setPanel p { s.panelAt p with evalTimer := s.timer 1000 }
    (e.evaluate p).finish

/-- ESCALATE_EXPIRY: the panel enters DEFROST (R98). -/
def execEscalateExpiry (p : Fin 4) (s : State) : Answer :=
  onExpiry s (s.panelAt p).escalateTimer fun s => ((Event.of s).enterDefrost p).finish

/-- RUN_ON_EXPIRY: the panel enters WATCH (R99). -/
def execRunOnExpiry (p : Fin 4) (s : State) : Answer :=
  onExpiry s (s.panelAt p).runOnTimer fun s =>
    ((Event.of s).map fun s => s.movePanel p (s.panelAt p).toWatch).finish

/-! ## DEFROST_NOW entries (R101) -/

/-- A DEFROST_NOW entry for a panel is added or replaced. -/
def Event.defrostAdded (e : Event) (p : Fin 4) : Event :=
  match (e.st.panelAt p).state with
  | .off => e
  | .defrost => e
  | .watch => e.enterDefrost p
  | .demist => e.enterDefrost p
  | .runOn => e.enterDefrost p

/-- The last DEFROST_NOW entry of a panel is removed. -/
def Event.defrostRemoved (e : Event) (p : Fin 4) : Event :=
  let r := e.st.panelAt p
  if r.state = .defrost then
    e.map fun s => s.movePanel p (r.toRunOn .defrost (s.runOnTime r))
  else e

end Sys2Proof.Machine
end

