-- ==== Sys2Proof/Machine/Overrides.lean ====
section
/-!
DEFINITION. The override unit's events (chapter 6): requests from the console and the depot, expiries,
the effects on the other blocks, and the status frames.
-/

namespace Sys2Proof.Machine

/-! ## The list (R108, R111) -/

/-- The entry has this key (R108). -/
def OverrideEntry.hasKey (x : OverrideEntry) (kind : OverrideKind) (target : Target) : Bool :=
  x.kind == kind && x.target == target

/-- The entry of a key, where one stands. -/
def OverrideUnit.find (u : OverrideUnit) (kind : OverrideKind) (target : Target) :
    Option OverrideEntry :=
  u.entries.find? fun x => x.hasKey kind target

/-- The list without the entry of a key. -/
def OverrideUnit.without (u : OverrideUnit) (kind : OverrideKind) (target : Target) :
    List OverrideEntry :=
  u.entries.filter fun x => !x.hasKey kind target

/-- Some saloon zone has an enabled adopted entry. -/
def State.saloonEnabled (s : State) : Bool :=
  allZones.any fun z => z != 0 && (s.zoneAt z).entry.enabled

/-- A target of R110 is enabled by the tables adopted now (R111). -/
def State.targetEnabled (s : State) (kind : OverrideKind) (target : Target) : Bool :=
  match kind, target with
  | .setpointOffset, .zone z => (s.zoneAt z).entry.enabled
  | .setpointOffset, .allSaloon => s.saloonEnabled
  | .climateOff, .allSaloon => s.saloonEnabled
  | .fanLevel, .body x => (s.fanSlot x).isSome
  | .fanLevel, .cab => s.blowerSlot.isSome
  | .recirc, .body x => (s.findSlot fun l => l.kind == .damper && l.place == .body x).isSome
  | .recirc, .cab => (s.findSlot fun l => l.kind == .damper && l.place == .cab).isSome
  | .defrostNow, .panel p => (s.panelAt p).entry.enabled
  | .curtainOff, .door d => (s.doorAt d).used
  | .curtainOff, .allDoors => s.door.doors.any DoorRec.used
  | .cabHeatMax, .cab => (s.zoneAt 0).entry.enabled
  | _, _ => false

/-! ## Effects on the other blocks (R119 to R124) -/

/-- The climate-off flag of zones 1 to 7 written (R122). -/
def State.setClimateOff (s : State) (on : Bool) : State :=
  { s with
    zone := { s.zone with
      zones := s.zone.zones.map fun z r => if z = 0 then r else { r with climateOff := on } } }

/-- A section suppressed by an accepted CLIMATE_OFF: its cooling call is cleared, and its running
compressor stops with the long lock (R34, R122). -/
def Event.suppress (e : Event) (x : BodySection) : Event :=
  if e.st.suppressed x then
    (e.map fun s => (s.setSection x { s.sectionAt x with call := false }).putCooling).forceStop x
      .long
  else e

/-- The owner of the place a key reaches acts on the entry's addition, replacement or removal, after
the list has been changed (R119). -/
def Event.override (e : Event) (kind : OverrideKind) (target : Target) (added : Bool) : Event :=
  match kind, target with
  | .fanLevel, .body x => e.map fun s => s.putFansOf (· == x)
  | .fanLevel, .cab => e.map State.putBlower
  | .recirc, .body x => e.putDampers (· == .body x)
  | .recirc, .cab => e.putDampers (· == .cab)
  | .defrostNow, .panel p => if added then e.defrostAdded p else e.defrostRemoved p
  | .climateOff, _ =>
    let e := e.map fun s => s.setClimateOff added
    if added then allSections.foldl (fun e x => e.suppress x) e else e
  | .curtainOff, .door d => e.map fun s => s.putCurtain d
  | .curtainOff, .allDoors => e.map fun s => allDoors.foldl (fun s d => s.putCurtain d) s
  | .cabHeatMax, _ => e.map fun s => s.setZone 0 { s.zoneAt 0 with heatMax := added }
  | _, _ => e

/-- The list changed, with its revision (R109). -/
def Event.changeList (e : Event) (entries : List OverrideEntry) : Event :=
  e.map fun s =>
    { s with override := { s.override with entries, revision := s.override.revision + 1 } }

/-! ## Status frames (R125) -/

/-- The remaining minutes of an entry, absent without expiry. -/
def State.remainingMinutes (s : State) (x : OverrideEntry) : BitVec 16 :=
  match x.expiry with
  | some t => BitVec.ofNat 16 (ceilDiv (s.remaining t) 60000)
  | none => 0xFFFF

/-- The payload of the header frame (R195). -/
def OverrideUnit.headerPayload (u : OverrideUnit) : List Byte :=
  [0xFF, byteOf u.entries.length, u.revision, u.lastResult.code]

/-- The payload of an entry frame (R195). -/
def State.entryPayload (s : State) (index : Nat) (x : OverrideEntry) : List Byte :=
  [byteOf index, x.kind.code, x.target.code] ++ bytes16 (BitVec.ofInt 16 x.value) ++
    [x.origin.code] ++ bytes16 (s.remainingMinutes x)

/-- One frame of a sending: the sequence is increased before the frame is formed. -/
def Event.sendStatus (e : Event) (payload : List Byte) : Event :=
  let seq := e.st.override.statusSequence + 1
  (e.map fun s => { s with override := { s.override with statusSequence := seq } }).sendOwn
    (makeFrame (statusStream e.st.path.node) .state seq payload)

/-- A sending: the header and one frame for each entry; the status timer is restarted. -/
def Event.sendStatuses (e : Event) : Event :=
  let s := e.st
  let e := e.sendStatus s.override.headerPayload
  let e := s.override.entries.zipIdx.foldl (fun e x => e.sendStatus (s.entryPayload x.2 x.1)) e
  e.map fun s => { s with override := { s.override with statusTimer := s.timer 5000 } }

/-! ## Requests (R114 to R118) -/

/-- The result of a request written; a refusal raises OVERRIDE_REFUSED (R118). -/
def Event.result (e : Event) (x : OverrideResult) : Event :=
  let e := e.map fun s => { s with override := { s.override with lastResult := x } }
  match x with
  | .refusedFull => e.raise .overrideRefused
  | .refusedInvalid => e.raise .overrideRefused
  | .none => e
  | .accepted => e
  | .replaced => e
  | .cancelled => e
  | .notFound => e

/-- The entry an accepted SET makes (R110, R114). -/
def State.newEntry (s : State) (origin : Origin) (kind : OverrideKind) (target : Target)
    (value : Int) (minutes : Nat) : OverrideEntry :=
  { kind, target, value := overrideValue kind value, origin
    expiry := (overrideLifetime kind target minutes).bind fun m => s.timer (60000 * m) }

/-- A SET whose kind and target stand (R114). -/
def Event.setEntry (e : Event) (origin : Origin) (kind : OverrideKind) (target : Target)
    (value : Int) (minutes : Nat) : Event :=
  let u := e.st.override
  let new := e.st.newEntry origin kind target value minutes
  match u.find kind target with
  | some old =>
    if origin = .console ∧ old.origin = .depot then e.result .refusedInvalid
    else
      ((e.changeList (u.without kind target ++ [new])).override kind target true).result .replaced
  | none =>
    if u.entries.length < 8 then
      ((e.changeList (u.entries ++ [new])).override kind target true).result .accepted
    else e.result .refusedFull

/-- A SET, up to its status frames (R114). -/
def Event.set (e : Event) (origin : Origin) (kind target : Byte) (value : Int) (minutes : Nat) :
    Event :=
  match overrideKindOf kind, targetOf target with
  | some k, some t =>
    if e.st.targetEnabled k t then e.setEntry origin k t value minutes
    else e.result .refusedInvalid
  | _, _ => e.result .refusedInvalid

/-- A CANCEL, up to its status frames (R115). -/
def Event.cancel (e : Event) (origin : Origin) (kind target : Byte) : Event :=
  match overrideKindOf kind, targetOf target with
  | some k, some t =>
    if k.admits t then
      match e.st.override.find k t with
      | none => e.result .notFound
      | some x =>
        if x.origin = .depot ∧ origin = .console then e.result .refusedInvalid
        else
          ((e.changeList (e.st.override.without k t)).override k t false).result .cancelled
    else e.result .refusedInvalid
  | _, _ => e.result .refusedInvalid

/-- An origin may remove an entry with CANCEL_ALL (R116). -/
def Origin.mayRemove (origin : Origin) (x : OverrideEntry) : Bool :=
  origin == .depot || x.origin == .console

/-- A CANCEL_ALL, up to its status frames (R116). -/
def Event.cancelAll (e : Event) (origin : Origin) : Event :=
  let entries := e.st.override.entries
  let gone := entries.filter fun x => origin.mayRemove x
  if gone.isEmpty then e.result .notFound
  else
    let e := e.changeList (entries.filter fun x => !origin.mayRemove x)
    (gone.foldl (fun e x => e.override x.kind x.target false) e).result .cancelled

/-! ## The commands -/

/-- SET from the console (R112, R114). -/
def execSet (kind target : Byte) (value duration : BitVec 16) (s : State) : Answer :=
  whenRunning s fun s =>
    let e := Event.of (s.taken (.set kind target value duration))
    ((e.set .console kind target value.toInt duration.toNat).sendStatuses).finish

/-- CANCEL from the console (R112, R115). -/
def execCancel (kind target : Byte) (s : State) : Answer :=
  whenRunning s fun s =>
    let e := Event.of (s.taken (.cancel kind target))
    ((e.cancel .console kind target).sendStatuses).finish

/-- CANCEL_ALL from the console (R112, R116). -/
def execCancelAll (s : State) : Answer :=
  whenRunning s fun s =>
    (((Event.of (s.taken .cancelAll)).cancelAll .console).sendStatuses).finish

/-- UNDEFINED_CONSOLE_ACTION: a refusal (R112, R118). -/
def execUndefinedConsoleAction (s : State) : Answer :=
  whenRunning s fun s =>
    (((Event.of (s.taken .undefinedConsoleAction)).result .refusedInvalid).sendStatuses).finish

/-- The event in which an entry expires (R117). -/
def expireOverride (s : State) (x : OverrideEntry) : State :=
  let e := Event.of s
  let e := (e.changeList (s.override.without x.kind x.target)).override x.kind x.target false
  ((e.raise .overrideExpired).sendStatuses).finish

/-- OVERRIDE_EXPIRY: the entry of the coded key leaves the list (R117). -/
def execOverrideExpiry (kind target : Byte) (s : State) : Answer :=
  match overrideKindOf kind, targetOf target with
  | some k, some t =>
    match s.override.find k t with
    | some x => onExpiry s x.expiry fun s => expireOverride s x
    | none => .next s
  | _, _ => .next s

/-- STATUS_TIMER_EXPIRY: a sending (R125, R126). -/
def execStatusTimerExpiry (s : State) : Answer :=
  onExpiry s s.override.statusTimer fun s => ((Event.of s).sendStatuses).done

end Sys2Proof.Machine
end

