-- ==== Sys2Proof/Machine/Reset.lean ====
section
/-!
DEFINITION. The reset event (section 10.8): where the segment contents come from, what every owner
adopts, the reset values, the faults, and the commands of the supply pins and of the reset input.
-/

namespace Sys2Proof.Machine

/-! ## The values a reset sets -/

/-- The frame path and the classifier after a reset: the table and the PORT entry adopted, no sequence
and no timer, queues empty (R147, R150, R151). -/
def resetClassifier (contents : Contents) : Classifier :=
  { table := (readStreams (contents.get SegmentId.streams)).1.map fun entry =>
      { entry, lastSequence := none, freshness := none }
    port := (readPort (entryAt (contents.get SegmentId.port) 0)).1
    handed := [] }

/-- The sample unit after a reset (R128, R139). -/
def resetSample (contents : Contents) (fallback : Int) : SampleUnit :=
  { channels := Table.tabulate fun c =>
      resetChannel (readChannel (entryAt (contents.get SegmentId.channels) c.val)).1
    outdoor := fallback
    outdoorUnknown := true
    outdoorExisted := false }

/-- The zone regulator after a reset (R4, R5, R7). -/
def resetZones (contents : Contents) : ZoneRegulator :=
  { zones := Table.tabulate fun z =>
      resetZone (readZone (entryAt (contents.get SegmentId.zones) z.val)).1 z
    schedule := (readSchedule (contents.get SegmentId.schedule)).1
    schedulePending := false
    activeBand := none }

/-- A section's record after a reset: a compressor is OFF_LOCKED with the long lock started (R36). -/
def resetSection (loads : Table 32 (Option LoadEntry)) (longLock : Nat) (x : BodySection) :
    SectionRec :=
  { demand := 0
    call := false
    compressor :=
      if loads.any fun l =>
          l.any fun l => l.kind == .compressor && l.place == .body x then
        some
          { state := .offLocked, lock := .long, lockTimer := some (BitVec.ofNat 32 (1000 * longLock)),
            minRunTimer := none }
      else none }

/-- The ladder and actuator unit after a reset, before the ladders are claimed and the reset commands
placed (R28, R33, R36). -/
def resetActuator (contents : Contents) (longLock : Nat) : ActuatorUnit :=
  let loads := (readLoads (contents.get SegmentId.loads)).1
  { slots := Table.tabulate fun i => resetSlot (loads.get i) none
    sections :=
      ⟨[resetSection loads longLock .a, resetSection loads longLock .b,
        resetSection loads longLock .c], rfl⟩
    startHold := true
    loadsPending := false }

/-- The door unit after a reset (R77). -/
def resetDoors (contents : Contents) : DoorUnit :=
  { doors := Table.tabulate fun d =>
      resetDoor (readDoor (entryAt (contents.get SegmentId.doors) d.val)).1
    holdOver := Table.fill 8 none }

/-- The glazing unit after a reset (R92). -/
def resetGlazing (contents : Contents) : GlazingUnit :=
  { panels := Table.tabulate fun p =>
      resetPanel (readPanel (entryAt (contents.get SegmentId.glazing) p.val)).1 p
    dew := readDew (contents.get SegmentId.dewpoint)
    dewPending := false }

/-- What a reset restores or keeps, by its kind (R177, R188): the contents, the modified flags, the
nonvolatile copy, the fault record, and whether the store failed its check. -/
structure Restored where
  cause : ResetCause
  contents : Contents
  modified : BitVec 11
  stored : Stored
  record : Option FaultRec
  storeFailed : Bool
  deriving DecidableEq, Repr

/-- The state with every reset value set, before the ladders, the faults and the reset commands (R188
steps 2 to 4). The commands that wait for the controller are not its state, and stay. -/
def resetBase (s : State) (x : Restored) : State :=
  let supply := (readSupply (entryAt (x.contents.get SegmentId.supply) 0)).1
  { pending := s.pending
    pins := s.pins
    partTime := 0
    path := resetPath s.pins.straps
    classifier := resetClassifier x.contents
    sample := resetSample x.contents supply.outdoorFallback
    zone := resetZones x.contents
    actuator := resetActuator x.contents supply.longLock
    budget := resetBudget supply
    door := resetDoors x.contents
    glazing := resetGlazing x.contents
    override := resetOverride
    notice := resetNotice (readNotice (entryAt (x.contents.get SegmentId.notice) 0)) x.record
    agent :=
      { contents := x.contents, modified := x.modified, session := none, stored := x.stored,
        storeOp := none, service := none, restartPending := false, cause := x.cause } }

/-! ## The faults of a reset event (R188 steps 1 and 2) -/

/-- The faults of one segment read entry by entry, with their indices. -/
def entryFaults (contents : Contents) (seg : SegmentId) (count : Nat)
    (failures : List Byte → Nat) : List Nat :=
  (List.range count).flatMap fun i =>
    List.replicate (failures (entryAt (contents.get seg) i)) i

/-- The zones adopt in ascending order: the check of the entry, then the claims of its ladder, which a
disabled entry makes too (R25, R33, log entries 14 and 25). -/
def Event.adoptZonesAtReset (e : Event) (contents : Contents) : Event :=
  allZones.foldl
    (fun e z =>
      let read := readZone (entryAt (contents.get SegmentId.zones) z.val)
      (e.faults .tableInconsistent (failures z.val read.2)).claimLadder z 0 read.1.ladder)
    e

/-- The faults found by the owners, in ascending segment number. Within CHANNELS, LOADS, DOORS and GLAZING
they are recorded in ascending entry number, which the rules do not state (DESIGN CHOICE, log entry 41). -/
def Event.resetFaults (e : Event) (x : Restored) : Event :=
  let c := x.contents
  let bad : Event → List Nat → Event := fun e l => e.faults .tableInconsistent l
  let e := if x.storeFailed then e.fault .storeCheck 0 else e
  let e := bad e (readStreams (c.get SegmentId.streams)).2
  let e := bad e (entryFaults c SegmentId.channels 48 fun bs => (readChannel bs).2)
  let e := e.adoptZonesAtReset c
  let e := bad e (readSchedule (c.get SegmentId.schedule)).2.toList
  let e := bad e (readLoads (c.get SegmentId.loads)).2
  let e := bad e (entryFaults c SegmentId.doors 8 fun bs => (readDoor bs).2)
  let e := bad e (entryFaults c SegmentId.glazing 4 fun bs => (readPanel bs).2)
  let e := bad e (entryFaults c SegmentId.supply 1 fun bs => (readSupply bs).2)
  bad e (entryFaults c SegmentId.port 1 fun bs => (readPort bs).2)

/-- The reset commands: level 0 for every slot that is not UNBOUND, in ascending order (R28, log entry
26). -/
def Event.resetCommands (e : Event) : Event := allSlots.foldl (fun e i => e.placeCommand i) e

/-- The reset event (R188). -/
def resetEvent (s : State) (x : Restored) : State :=
  (((Event.of (resetBase s x)).resetFaults x).resetCommands).done

/-! ## The three kinds (R188) -/

/-- The nonvolatile copy as a POWER_ON or LINE reset finds it: a running store operation is cut off,
and the copy then fails its check (R184, log entry 20). -/
def Agent.copyAtReset (a : Agent) : Stored := if a.storeOp.isSome then .broken else a.stored

/-- What a POWER_ON or LINE reset restores. A store never written counts as a failed check, so
STORE_CHECK is recorded for it too (R188, log entry 33). -/
def State.fromStore (s : State) (cause : ResetCause) : Restored :=
  let stored := s.agent.copyAtReset
  match stored with
  | .whole contents =>
    { cause, contents, modified := 0, stored, record := none, storeFailed := false }
  | .never =>
    { cause, contents := defaultContents, modified := BitVec.allOnes 11, stored, record := none,
      storeFailed := true }
  | .broken =>
    { cause, contents := defaultContents, modified := BitVec.allOnes 11, stored, record := none,
      storeFailed := true }

/-- What a RESTART reset keeps. -/
def State.forRestart (s : State) : Restored :=
  { cause := .restart
    contents := s.agent.contents
    modified := s.agent.modified
    stored := s.agent.stored
    record := s.notice.record
    storeFailed := false }

/-- The RESTART reset (R190). -/
def State.restart (s : State) : State := resetEvent s s.forRestart

/-- The end of an event that may have discarded the reply to RESTART (R157, R190). The event is finished,
with its pass, faults and notices, and the reset follows: the model's choice (DESIGN CHOICE, log entry
38). A request has acted before this pass, so a FAULT_READ or FAULT_CLEAR comes before the faults the pass
records (DESIGN CHOICE, log entry 39). -/
def Event.finishOrRestart (e : Event) : State :=
  if e.restartDue then e.finish.restart else e.finish

/-! ## The commands -/

/-- POWER_ON: the supply pins come up. While the reset input is held nothing is sent: the reset event
leaves the frame path empty (R188, log entry 3). -/
def execPowerOn (straps : BitVec 3) (s : State) : Answer :=
  let s := { s with pins := { s.pins with supplyUp := true, straps } }
  let t := resetEvent s (s.fromStore .powerOn)
  .next (if s.pins.resetHeld then { t with path := resetPath straps } else t)

/-- LINE_RESET: the reset input is released. Without supply there is no reset event (R188). -/
def execLineReset (straps : BitVec 3) (s : State) : Answer :=
  let s := { s with pins := { s.pins with resetHeld := false, straps } }
  .next (if s.pins.supplyUp then resetEvent s (s.fromStore .line) else s)

/-- The controller stops receiving and sending: transmissions in progress are cut off and every
queue is lost with the reset that follows (R147, R188). -/
def FramePath.cutOff (p : FramePath) : FramePath := { p with vehicleTx := none, plantTx := none }

/-- SUPPLY_DOWN: the controller is inert until POWER_ON (R188). -/
def execSupplyDown (s : State) : Answer :=
  .next { s with pins := { s.pins with supplyUp := false }, path := s.path.cutOff }

/-- RESET_INPUT_HELD: the controller is inert until LINE_RESET (R188). -/
def execResetInputHeld (s : State) : Answer :=
  .next { s with pins := { s.pins with resetHeld := true }, path := s.path.cutOff }

end Sys2Proof.Machine
end

