-- ==== Sys2Proof/Machine/Supply.lean ====
section
/-!
DEFINITION. The supply and budget unit's events (chapter 3): supply frames and states, the line budget
and its ramp, banking, and the budget period.
-/

namespace Sys2Proof.Machine

/-! ## The line pool budget (R61) -/

/-- A, the climate allowance in the line budget. -/
def BudgetUnit.allowance (b : BudgetUnit) : Nat := min b.heldAllowance b.entry.climateMax

/-- The value of the LIVE rows, which is the ramp's target (R61, R62). -/
def BudgetUnit.liveTarget (b : BudgetUnit) : Nat :=
  if b.banking then b.allowance + min b.heldSurplus 150 else b.allowance

/-- The value of the SAG row. -/
def BudgetUnit.sagBudget (b : BudgetUnit) : Nat :=
  b.allowance * (limitNat b.heldVoltage b.entry.gap b.entry.sag - b.entry.gap) /
    (b.entry.sag - b.entry.gap)

/-- A budget under a ramp ceiling, where one is present. -/
def capped (ramp : Option Nat) (budget : Nat) : Nat :=
  match ramp with
  | some ceiling => min budget ceiling
  | none => budget

/-- The line pool budget of a state and its held values (R61). -/
def BudgetUnit.computedLine (b : BudgetUnit) : Nat :=
  match b.state with
  | .live => capped b.ramp b.liveTarget
  | .sag => capped b.ramp b.sagBudget
  | .start => 0
  | .returning => 0
  | .gap => 0
  | .dewired => 0

/-- The line budget recomputed; a change calls for a budget pass (R61). -/
def Event.recomputeLine (e : Event) : Event :=
  let line := e.st.budget.computedLine
  if line = e.st.budget.lineBudget then e
  else (e.map fun s => { s with budget := { s.budget with lineBudget := line } }).callPass

/-! ## Banking (R22, R63) -/

/-- Banking begins: the flag is set in the enabled zones with a bank margin, and a bank release that
runs in them is cleared (R22). A bank release of a zone that is no longer enabled, or has no margin any
more, runs on (log entry 29). -/
def State.beginBanking (s : State) : State :=
  { s with
    budget := { s.budget with banking := true }
    zone := { s.zone with
      zones := s.zone.zones.map fun _ r =>
        if r.entry.enabled ∧ 0 < r.entry.bankMargin then
          { r with banking := true, bankRelease := false, bankTimer := none }
        else r } }

/-- A zone that banked starts its bank release, and raises a negative D to 0 (R22). -/
def ZoneRec.releaseBank (r : ZoneRec) (timer : Timer) : ZoneRec :=
  { r with
    banking := false
    bankRelease := true
    bankTimer := timer
    d := max r.d 0
    lastD := if r.d < 0 then 0 else r.lastD }

/-- Banking ends in every zone where it was set, with the hand-off of a D it raised (R22, R63). -/
def Event.endBanking (e : Event) : Event :=
  let e := e.map fun s => { s with budget := { s.budget with banking := false } }
  allZones.foldl
    (fun e z =>
      let r := e.st.zoneAt z
      if r.banking then
        let e' := e.map fun s => s.setZone z (r.releaseBank (s.timer 300000))
        if r.d < 0 then e'.handOff z else e'
      else e)
    e

/-- Banking re-evaluated with the held surplus (R63). -/
def Event.reviewBanking (e : Event) : Event :=
  let b := e.st.budget
  if b.state = .live then
    if !b.banking ∧ 30 ≤ b.heldSurplus then e.map State.beginBanking
    else if b.banking ∧ b.heldSurplus < 30 then e.endBanking
    else e
  else if b.banking then e.endBanking
  else e

/-! ## Entry into a state (R60) -/

/-- Row 1: the settle and gap timers (R57, R58). -/
def BudgetUnit.entered (b : BudgetUnit) (new : SupplyState) (settle gap : Timer) : BudgetUnit :=
  { b with
    state := new
    settleTimer := if new = .returning then settle else none
    gapTimer := if new = .gap then gap else none }

/-- Row 2 at entry to GAP: a record in RUN_MIN, RUN or OFF_READY takes the short lock (R38). -/
def Event.shortLocks (e : Event) : Event :=
  allSections.foldl
    (fun e x =>
      match (e.st.sectionAt x).compressor with
      | some r => if r.state = .offLocked then e else e.lockCompressor x .short
      | none => e)
    e

/-- Row 2 at entry to DEWIRED: every record takes the long lock, but for one already under it (R38). -/
def Event.longLocks (e : Event) : Event :=
  allSections.foldl
    (fun e x =>
      match (e.st.sectionAt x).compressor with
      | some r =>
        if r.state = .offLocked ∧ r.lock = .long then e else e.lockCompressor x .long
      | none => e)
    e

/-- Row 5: the ramp ceiling at entry to a state (R60, R62). -/
def rampAtEntry (new : SupplyState) (ramp : Option Nat) : Option Nat :=
  match new with
  | .gap => ramp.map fun _ => 0
  | .dewired => none
  | .start => ramp
  | .returning => ramp
  | .live => ramp
  | .sag => ramp

/-- A request that the event has changed calls for the pass of row 7. -/
def Event.passIfAsked (e : Event) : Event :=
  if allSlots.any fun i => e.st.formed i != ((e.st.rowAt i).request, (e.st.rowAt i).cls) then
    e.callPass
  else e

/-- The entry into a supply state (R60). A state that stays is not entered. Row 6 recomputes the line
budget before the banking of R52 step 3 is re-evaluated, and a change then calls for the pass of row 7 even
where banking brings the budget back: the model's choice (DESIGN CHOICE, log entry 37). -/
def Event.enterSupply (e : Event) (new : SupplyState) : Event :=
  let old := e.st.budget.state
  if old = new then e
  else
    let e := e.map fun s =>
      { s with
        budget := s.budget.entered new (s.timer 2000) (s.timer (100 * s.budget.entry.gapLimit)) }
    let e := if new = .gap then e.shortLocks else if new = .dewired then e.longLocks else e
    let e := if old = .live then e.releaseSlots else e
    let e := if old = .live ∧ e.st.budget.banking then e.endBanking else e
    let e := e.map fun s =>
      { s with budget := { s.budget with ramp := rampAtEntry new s.budget.ramp } }
    e.recomputeLine.passIfAsked

/-! ## Supply frames (R52, R56) -/

/-- The four values of a supply frame, limited as R52 states. -/
structure SupplyReport where
  voltage : Nat
  onWire : Bool
  allowance : Nat
  surplus : Nat
  deriving DecidableEq, Repr

/-- The report a frame carries: absent when it is no STATE frame, or its pole contact is undefined,
or its payload is short (R52, R193). -/
def supplyReport (f : Frame) : Option SupplyReport :=
  let pole := u8At f.payload 2
  if f.kind = .state ∧ 7 ≤ f.payload.length ∧ pole ≤ 1 then
    some
      { voltage := min (u16At f.payload 0) 1200
        onWire := pole = 1
        allowance := min (u16At f.payload 3) 600
        surplus := min (u16At f.payload 5) 800 }
  else none

/-- The classes of a supply frame (R56). -/
inductive SupplyClass where
  | off
  | high
  | mid
  | low
  deriving DecidableEq, Repr

/-- The class of a report under the adopted thresholds (R56). -/
def SupplyEntry.classOf (e : SupplyEntry) (r : SupplyReport) : SupplyClass :=
  if !r.onWire then .off
  else if e.sag ≤ r.voltage then .high
  else if e.gap ≤ r.voltage then .mid
  else .low

/-- The state a frame moves to; an entry that stays answers the same state (R56). -/
def SupplyState.onFrame : SupplyState → SupplyClass → SupplyState
  | .start, .off => .dewired
  | .start, .high => .returning
  | .start, .mid => .start
  | .start, .low => .start
  | .returning, .off => .dewired
  | .returning, .high => .returning
  | .returning, .mid => .dewired
  | .returning, .low => .dewired
  | .live, .off => .dewired
  | .live, .high => .live
  | .live, .mid => .sag
  | .live, .low => .gap
  | .sag, .off => .dewired
  | .sag, .high => .live
  | .sag, .mid => .sag
  | .sag, .low => .gap
  | .gap, .off => .dewired
  | .gap, .high => .live
  | .gap, .mid => .sag
  | .gap, .low => .gap
  | .dewired, .off => .dewired
  | .dewired, .high => .returning
  | .dewired, .mid => .dewired
  | .dewired, .low => .dewired

/-- The held values of the supply record (R52 step 1). -/
def BudgetUnit.hold (b : BudgetUnit) (r : SupplyReport) : BudgetUnit :=
  { b with heldVoltage := r.voltage, heldAllowance := r.allowance, heldSurplus := r.surplus }

/-- The event in which a supply frame is taken (R52): the entry of step 2 with its own recomputation, then
banking, then the recomputation of step 4. That the first of the two alone can call for a pass is the model's
choice (DESIGN CHOICE, log entry 37). -/
def takeSupplyReport (s : State) (r : SupplyReport) : State :=
  let e := (Event.of s).map fun s => { s with budget := s.budget.hold r }
  let e := e.enterSupply (s.budget.state.onFrame (s.budget.entry.classOf r))
  e.reviewBanking.recomputeLine.finish

/-- SUPPLY_FRAME (R52, R56). -/
def execSupplyFrame (f : Frame) (s : State) : Answer :=
  whenRunning s fun s =>
    let s := s.taken (.supplyFrame f)
    match supplyReport f with
    | some r => takeSupplyReport s r
    | none => s

/-! ## Expiries -/

/-- SUPPLY_FRESHNESS_EXPIRY (R59, log entry 14). -/
def execSupplyFreshnessExpiry (s : State) : Answer :=
  whenRunning s fun s =>
    let e := Event.of (s.taken .supplyFreshnessExpiry)
    (((e.raise .supplyStale).fault .supplyStale 0).enterSupply .dewired).finish

/-- The end of the settling: LIVE, with the ramp at 0 (R57, R62, R63), in the order of log entry 37. -/
def endSettle (s : State) : State :=
  let e := (Event.of s).map fun s => { s with budget := { s.budget with ramp := some 0 } }
  (e.enterSupply .live).reviewBanking.recomputeLine.finish

/-- SETTLE_EXPIRY (R57). -/
def execSettleExpiry (s : State) : Answer := onExpiry s s.budget.settleTimer endSettle

/-- GAP_EXPIRY (R58). -/
def execGapExpiry (s : State) : Answer :=
  onExpiry s s.budget.gapTimer fun s => ((Event.of s).enterSupply .dewired).finish

/-- One step of the ramp, in LIVE with a ceiling present (R62). -/
def BudgetUnit.stepRamp (b : BudgetUnit) : BudgetUnit :=
  match b.ramp with
  | some ceiling =>
    if b.state = .live then
      if b.liveTarget ≤ ceiling + 20 then { b with ramp := none, lineBudget := b.liveTarget }
      else { b with ramp := some (ceiling + 20), lineBudget := ceiling + 20 }
    else b
  | none => b

/-- BUDGET_PERIOD_EXPIRY: the ramp step, then a pass (R62, R67). -/
def execBudgetPeriodExpiry (s : State) : Answer :=
  onExpiry s s.budget.periodTimer fun s =>
    ((Event.of s).map fun s =>
      { s with budget := { s.budget.stepRamp with periodTimer := s.timer 250 } }).callPass.finish

/-! ## Compressor timers (R36, R39) -/

/-- MINIMUM_RUN_EXPIRY: the record enters RUN, and stops in the event if W is then 0 (R36, R37). -/
def execMinimumRunExpiry (x : BodySection) (s : State) : Answer :=
  match (s.sectionAt x).compressor with
  | none => .next s
  | some r =>
    onExpiry s r.minRunTimer fun s =>
      ((Event.of s).setCompressor x { r with state := .run, minRunTimer := none }).finish

/-- LOCK_EXPIRY: the record enters OFF_READY; the change of the lock calls for a pass (R39, R66). -/
def execLockExpiry (x : BodySection) (s : State) : Answer :=
  match (s.sectionAt x).compressor with
  | none => .next s
  | some r =>
    onExpiry s r.lockTimer fun s =>
      ((Event.of s).setCompressor x
        { r with state := .offReady, lockTimer := none }).callPass.finish

end Sys2Proof.Machine
end

