-- ==== Sys2Proof/Machine/Manage.lean ====
section
/-!
DEFINITION. The management agent (chapter 10): requests and replies, segments, the load session and
what its end hands to the owners, the store, service mode, manual takes, and the restart.
-/

namespace Sys2Proof.Machine

/-! ## Requests (R194) -/

/-- A management request with its parameters. -/
inductive Request where
  | identify
  | readCause
  | status (page : Nat)
  | read (segment index part : Nat)
  | loadBegin (segment index mode : Nat)
  | loadData (part : Nat) (last : Bool) (data : List Byte)
  | loadEnd
  | store
  | serviceEnter (allowClears : Bool)
  | serviceExit
  | forceChannel (channel : Nat) (value : Int)
  | releaseChannel (channel : Nat)
  | manualTake (slot : Nat)
  | manualRelease (slot : Nat)
  | actuatorClear (slot : Nat)
  | noticeClear (named : BitVec 24)
  | noticeTest
  | faultRead
  | faultClear
  | override (action kind target : Byte) (value : Int) (minutes : Nat)
  | restart
  deriving DecidableEq, Repr

/-- The number of parameter bytes a defined opcode requires (R176 step 5, R194, log entry 21). -/
def parameterBytes (opcode : Nat) : Option Nat :=
  [(0x01, 0), (0x02, 0), (0x03, 1), (0x04, 3), (0x05, 3), (0x06, 1), (0x07, 0), (0x08, 0), (0x09, 1),
    (0x0A, 0), (0x0B, 3), (0x0C, 1), (0x0D, 1), (0x0E, 1), (0x0F, 1), (0x10, 3), (0x11, 0),
    (0x12, 0), (0x13, 0), (0x14, 7), (0x15, 0)].lookup opcode

/-- The request of a defined opcode, from the whole payload. -/
def requestOf (opcode : Nat) (p : List Byte) : Option Request :=
  match opcode with
  | 0x01 => some .identify
  | 0x02 => some .readCause
  | 0x03 => some (.status (u8At p 1))
  | 0x04 => some (.read (u8At p 1) (u8At p 2) (u8At p 3))
  | 0x05 => some (.loadBegin (u8At p 1) (u8At p 2) (u8At p 3))
  | 0x06 => some (.loadData (u8At p 1 % 128) ((byteAt p 1).getLsbD 7) (p.drop 2))
  | 0x07 => some .loadEnd
  | 0x08 => some .store
  | 0x09 => some (.serviceEnter (u8At p 1 ≠ 0))
  | 0x0A => some .serviceExit
  | 0x0B => some (.forceChannel (u8At p 1) (s16At p 2))
  | 0x0C => some (.releaseChannel (u8At p 1))
  | 0x0D => some (.manualTake (u8At p 1))
  | 0x0E => some (.manualRelease (u8At p 1))
  | 0x0F => some (.actuatorClear (u8At p 1))
  | 0x10 => some (.noticeClear (flags24At p 1))
  | 0x11 => some .noticeTest
  | 0x12 => some .faultRead
  | 0x13 => some .faultClear
  | 0x14 => some (.override (byteAt p 1) (byteAt p 2) (byteAt p 3) (s16At p 4) (u16At p 6))
  | 0x15 => some .restart
  | _ => none

/-- The opcodes that leave an open session open: STATUS, READ, LOAD_DATA and LOAD_END (R176). -/
def keepsSession (opcode : Nat) : Bool :=
  opcode == 0x03 || opcode == 0x04 || opcode == 0x06 || opcode == 0x07

/-- What a request is answered: the result, the data that go with OK, and the mark of the reply to
RESTART. -/
structure Reply where
  result : Result
  data : List Byte
  marked : Bool
  deriving DecidableEq, Repr

/-- An answer without data. -/
def plain (r : Result) : Option Reply := some { result := r, data := [], marked := false }

/-- An answer OK with data. -/
def withData (data : List Byte) : Option Reply := some { result := .ok, data, marked := false }

/-- The answer of a block that handled the request. -/
def answered (x : Result × Event) : Option Reply × Event := (plain x.1, x.2)

/-- A reply formed and offered (R176); the reply to a clear follows the examination of the clear
(R168). A result other than OK carries no data, by R176 and R194: so does that of a refused LOAD_DATA,
although R182 has the reply to every LOAD_DATA carry the session state, the cursor and the expected part
(DESIGN CHOICE, log entry 40). -/
def Event.reply (e : Event) (opcode sequence : Byte) (r : Reply) : Event :=
  let payload := [opcode, r.result.code] ++ (if r.result = .ok then r.data else [])
  let f : VehicleFrame :=
    { frame := makeFrame (replyStream e.st.path.node) .reply sequence payload
      restartReply := r.marked }
  if e.cleared then { e with owedReply := some f } else e.offerVehicle true f

/-! ## Segments (R179, R180) -/

/-- The number of entries of a segment. -/
def entryCount (seg : SegmentId) : Nat := [128, 48, 8, 8, 32, 8, 4, 11, 1, 1, 1].getD seg.val 0

/-- The size of a segment's entries in bytes. -/
def entrySize (seg : SegmentId) : Nat := [8, 12, 24, 8, 12, 8, 12, 2, 16, 8, 4].getD seg.val 0

/-- The segment is of access OPEN. -/
def openAccess (seg : SegmentId) : Bool := seg == SegmentId.schedule || seg == SegmentId.notice

/-- A part of an entry, absent where the part begins at or past the entry's end (R180). The entry of
SUPPLY, of 16 bytes, has a part 1 so (log entry 36). -/
def partOf (bs : List Byte) (size part : Nat) : Option (List Byte) :=
  if size ≤ 12 * part then none else some ((bs.drop (12 * part)).take 12)

/-- READ (R179, R180). -/
def Event.readPart (e : Event) (segment index part : Nat) : Option Reply × Event :=
  if h : segment < 11 then
    let seg : SegmentId := ⟨segment, h⟩
    if entryCount seg ≤ index then (plain .badRange, e.fault .tableRange segment)
    else
      match partOf (entryAt (e.st.agent.contents.get seg) index) (entrySize seg) part with
      | some data => (withData data, e)
      | none => (plain .badRange, e)
  else (plain .badSegment, e)

/-! ## What the end of a session hands over (R183) -/

/-- An entry of a new stream table: it keeps the sequence and the timer of an old entry with its side,
stream, disposition and role (R150). -/
def keptStream (old : List StreamRec) (entry : StreamEntry) : StreamRec :=
  let same := fun (r : StreamRec) =>
    r.entry.side == entry.side && r.entry.stream == entry.stream &&
      r.entry.disposition == entry.disposition && r.entry.role == entry.role
  match old.find? same with
  | some r =>
    { entry, lastSequence := r.lastSequence,
      freshness := if entry.freshness = 0 then none else r.freshness }
  | none => { entry, lastSequence := none, freshness := none }

/-- STREAMS contents adopted (R150). -/
def Event.adoptStreams (e : Event) : Event :=
  let read := readStreams (e.st.agent.contents.get SegmentId.streams)
  (e.faults .tableInconsistent read.2).map fun s =>
    { s with
      classifier := { s.classifier with table := read.1.map (keptStream s.classifier.table) } }

/-- PORT contents adopted (R151). -/
def Event.adoptPort (e : Event) : Event :=
  let read := readPort (entryAt (e.st.agent.contents.get SegmentId.port) 0)
  (e.faults .tableInconsistent (failures 0 read.2)).map fun s =>
    { s with classifier := { s.classifier with port := read.1 } }

/-- SUPPLY contents adopted: both budgets, and the outdoor value while none has existed (R54, R55,
R140). -/
def Event.adoptSupply (e : Event) : Event :=
  let read := readSupply (entryAt (e.st.agent.contents.get SegmentId.supply) 0)
  let e := e.faults .tableInconsistent (failures 0 read.2)
  let before := e.st.budget.batteryBudget
  let e := (e.map fun s =>
    { s with
      budget := { s.budget with entry := read.1, batteryBudget := read.1.battery } }).recomputeLine
  let e := if before = e.st.budget.batteryBudget then e else e.callPass
  if e.st.sample.outdoorExisted then e else e.map State.putOutdoor

/-- Completed contents handed to the owner: adopted at once, or pending until the owner's own next
adoption (R179). -/
def Event.handOver (e : Event) (seg : SegmentId) : Event :=
  match seg.val with
  | 0 => e.adoptStreams
  | 1 => e.adoptChannels
  | 2 =>
    e.map fun s =>
      { s with
        zone := { s.zone with zones := s.zone.zones.map fun _ r => { r with adoptPending := true } } }
  | 3 => e.map fun s => { s with zone := { s.zone with schedulePending := true } }
  | 4 => e.map fun s => { s with actuator := { s.actuator with loadsPending := true } }
  | 5 =>
    e.map fun s =>
      { s with
        door := { s.door with doors := s.door.doors.map fun _ r => { r with adoptPending := true } } }
  | 6 =>
    e.map fun s =>
      { s with
        glazing := { s.glazing with
          panels := s.glazing.panels.map fun _ r => { r with adoptPending := true } } }
  | 7 => e.map fun s => { s with glazing := { s.glazing with dewPending := true } }
  | 8 => e.adoptSupply
  | 9 => e.adoptNotice
  | _ => e.adoptPort

/-- The session becomes CLOSED; with a completed entry the modified flag is set and the contents are
handed over (R183). -/
def Event.closeSession (e : Event) (x : Session) : Event :=
  let e := e.map fun s => { s with agent := { s.agent with session := none } }
  if x.completed = 0 then e
  else
    (e.map fun s =>
      { s with
        agent := { s.agent with
          modified := s.agent.modified ||| BitVec.twoPow 11 x.segment.val } }).handOver x.segment

/-- A session ends broken (R183, log entry 24). -/
def Event.breakSession (e : Event) : Event :=
  match e.st.agent.session with
  | some x => (e.closeSession x).raise .loadBroken
  | none => e

/-! ## The load session (R181, R182) -/

/-- The session written, with its 2 s timer restarted. -/
def Event.putSession (e : Event) (x : Session) : Event :=
  e.map fun s => { s with agent := { s.agent with session := some { x with timer := s.timer 2000 } } }

/-- The session state, the cursor and the expected part, as a reply to LOAD_DATA carries them after the
request. Where its entry ended a STOP session, R182 and R194 give no cursor and no expected part: the
model sends 0 and 0 (log entry 32). -/
def sessionData : Option Session → List Byte
  | some x => [1, byteOf x.cursor, byteOf x.expected]
  | none => [0, 0, 0]

/-- LOAD_BEGIN (R179, R181). -/
def Event.loadBegin (e : Event) (segment index mode : Nat) : Option Reply × Event :=
  if e.st.agent.storeOp.isSome then (plain .busy, e)
  else if h : segment < 11 then
    let seg : SegmentId := ⟨segment, h⟩
    if !openAccess seg && e.st.agent.service.isNone then (plain .refusedAccess, e)
    else if entryCount seg ≤ index then (plain .badRange, e.fault .tableRange segment)
    else if 1 < mode then (plain .badRange, e)
    else
      let x : Session :=
        { segment := seg, mode := if mode = 0 then .wrap else .stop, cursor := index, expected := 0,
          buffer := [], completed := 0, timer := none }
      (withData [1, byteOf x.cursor], e.putSession x)
  else (plain .badSegment, e)

/-- The partial entry discarded. -/
def Session.discard (x : Session) : Session := { x with buffer := [], expected := 0 }

/-- The contents with an entry replaced (R182). -/
def writeEntry (contents : Contents) (seg : SegmentId) (index : Nat) (bs : List Byte) : Contents :=
  contents.modify seg fun l => l.set index bs

/-- An entry completes: it is written, and the cursor advances. Past the last entry WRAP returns to 0
and STOP ends the session normally (R182, R183). -/
def Event.completeEntry (e : Event) (x : Session) (bs : List Byte) : Event :=
  let e := e.map fun s =>
    { s with
      agent := { s.agent with contents := writeEntry s.agent.contents x.segment x.cursor bs } }
  let y := { x.discard with completed := x.completed + 1, cursor := x.cursor + 1 }
  if y.cursor < entryCount x.segment then e.putSession y
  else
    match x.mode with
    | .wrap => e.putSession { y with cursor := 0 }
    | .stop => e.closeSession y

/-- LOAD_DATA in an open session (R182). A part with the last flag clear that fills the buffer exactly to
the entry size joins, as the table of R182 says, although its text has the buffer hold at most 23 bytes
(log entry 31). -/
def Event.loadPart (e : Event) (x : Session) (part : Nat) (last : Bool) (data : List Byte) :
    Result × Event :=
  let bs := x.buffer ++ data
  let size := entrySize x.segment
  if part ≠ x.expected then (.badState, e.putSession x.discard)
  else if data.isEmpty ∨ size < bs.length then (.badRange, e.putSession x.discard)
  else if !last then (.ok, e.putSession { x with buffer := bs, expected := x.expected + 1 })
  else if bs.length < size then (.badRange, e.putSession x.discard)
  else (.ok, e.completeEntry x bs)

/-- LOAD_DATA (R182). The data of a refused one are formed here and dropped by `Event.reply` (log entry
40). -/
def Event.loadData (e : Event) (part : Nat) (last : Bool) (data : List Byte) :
    Option Reply × Event :=
  match e.st.agent.session with
  | none => (plain .badState, e)
  | some x =>
    let r := e.loadPart x part last data
    (some { result := r.1, data := sessionData r.2.st.agent.session, marked := false }, r.2)

/-- LOAD_END (R183). -/
def Event.loadEnd (e : Event) : Option Reply × Event :=
  match e.st.agent.session with
  | none => (plain .badState, e)
  | some x => (plain .ok, e.closeSession x)

/-! ## STATUS (R178, R194) -/

/-- A byte of flags, bit 0 first. -/
def flagByte (flags : List Bool) : Byte :=
  (flags.zipIdx.map fun x => if x.1 then BitVec.twoPow 8 x.2 else 0).foldl (· ||| ·) 0

/-- Page 0. -/
def State.statusPage0 (s : State) : List Byte :=
  let a := s.agent
  [s.budget.state.code] ++ bytes16 (BitVec.ofNat 16 s.budget.lineBudget) ++
    [ byteOf s.budget.batteryBudget,
      flagByte
        [ s.budget.banking, a.service.isSome, a.service.any Service.allowClears, a.storeOp.isSome,
          a.session.isSome ] ] ++
    (match a.session with
      | some x => [byteOf x.segment.val, byteOf x.cursor, byteOf x.expected]
      | none => [0, 0, 0]) ++
    [a.modified.extractLsb' 0 8, (a.modified.zeroExtend 16).extractLsb' 8 8, a.cause.code]

/-- Page 1. -/
def State.statusPage1 (s : State) : List Byte :=
  let n := s.notice
  flagBytes24 n.statuses ++ flagBytes24 n.raws ++
    [flagByte [n.cab.raised, n.depot.raised, n.record.isSome]]

/-- Page 3. -/
def State.statusPage3 (s : State) : List Byte :=
  (s.glazing.panels.items.map fun p => p.state.code) ++
    bytes16 (BitVec.ofInt 16 s.sample.outdoor) ++ [byteOfBool s.sample.outdoorUnknown]

/-- A channel's nibble: the slewing flag and the quality. -/
def ChannelRec.nibble (c : ChannelRec) : BitVec 4 := BitVec.ofBool c.slewing ++ c.quality.code

/-- A slot's nibble: the MANUAL flag and the state. -/
def SlotRec.nibble (r : SlotRec) : BitVec 4 :=
  (0 : BitVec 1) ++ BitVec.ofBool r.manual ++ r.state.code

/-- Nibbles packed two to a byte, the lower number in the high nibble. -/
def packNibbles : List (BitVec 4) → List Byte
  | hi :: lo :: rest => (hi ++ lo) :: packNibbles rest
  | _ => []

/-- Sixteen channels' nibbles, from channel `16 × k` on. -/
def State.channelPage (s : State) (k : Nat) : List Byte :=
  packNibbles (((s.sample.channels.items.drop (16 * k)).take 16).map ChannelRec.nibble)

/-- Sixteen slots' nibbles, from slot `16 × k` on. -/
def State.slotPage (s : State) (k : Nat) : List Byte :=
  packNibbles (((s.actuator.slots.items.drop (16 * k)).take 16).map SlotRec.nibble)

/-- The bytes of a page after its number; a page of 9 or more does not exist. -/
def State.statusPage (s : State) (page : Nat) : Option (List Byte) :=
  match page with
  | 0 => some s.statusPage0
  | 1 => some s.statusPage1
  | 2 => some (s.zone.zones.items.map fun z => z.mode.code)
  | 3 => some s.statusPage3
  | 4 => some (s.channelPage 0)
  | 5 => some (s.channelPage 1)
  | 6 => some (s.channelPage 2)
  | 7 => some (s.slotPage 0)
  | 8 => some (s.slotPage 1)
  | _ => none

/-- STATUS. -/
def Event.status (e : Event) (page : Nat) : Option Reply × Event :=
  match e.st.statusPage page with
  | some bytes => (withData (byteOf page :: bytes), e)
  | none => (plain .badRange, e)

/-! ## The store (R184) -/

/-- STORE: the contents are taken, the modified flags cleared, and the operation runs for at most
400 ms; the reply is formed at its completion. -/
def Event.store (e : Event) (sequence : Byte) : Option Reply × Event :=
  if e.st.agent.storeOp.isSome then (plain .busy, e)
  else
    (none, e.map fun s =>
      { s with
        agent := { s.agent with
          modified := 0
          storeOp := some
            { contents := s.agent.contents, sequence, limit := s.partTime + 400 } } })

/-! ## Service mode (R185, R186) -/

/-- The 30 min inactivity timer, in milliseconds. -/
def inactivityMs : Nat := 1800000

/-- SERVICE_ENTER (R185). -/
def Event.serviceEnter (e : Event) (allowClears : Bool) : Option Reply × Event :=
  match e.st.agent.service with
  | some _ => (plain .badState, e)
  | none =>
    (plain .ok, e.map fun s =>
      { s with
        agent := { s.agent with service := some { allowClears, timer := s.timer inactivityMs } } })

/-- The end of service mode (R186, log entry 22). -/
def Event.endService (e : Event) : Event :=
  ((e.map State.releaseChannels).releaseSlots).map fun s =>
    { s with agent := { s.agent with service := none } }

/-- SERVICE_EXIT (R185). -/
def Event.serviceExit (e : Event) : Option Reply × Event :=
  match e.st.agent.service with
  | some _ => (plain .ok, e.endService)
  | none => (plain .badState, e)

/-- A request restarts the inactivity timer while service mode is on (R176 step 1). -/
def State.touchService (s : State) : State :=
  { s with
    agent := { s.agent with
      service := s.agent.service.map fun x => { x with timer := s.timer inactivityMs } } }

/-! ## Manual takes (R187) and cleared actuators (R49) -/

/-- Q: the requests of class 0 of the other slots of a pool. -/
def State.reservedPower (s : State) (i : Fin 32) (pool : Pool) : Nat :=
  (allSlots.map fun j =>
    let row := s.rowAt j
    if j ≠ i ∧ row.cls = 0 ∧ (s.slotAt j).entry.any (·.pool = pool) then row.request else 0).sum

/-- The slot refuses a manual take: it is UNBOUND or FAULTED, a compressor or a damper (R50). -/
def SlotRec.takeable (r : SlotRec) : Bool :=
  match r.entry with
  | some l => r.state == .ok && l.kind != .compressor && l.kind != .damper
  | none => false

/-- A request that names a slot. -/
def onSlot (e : Event) (slot : Nat) (f : Fin 32 → Result × Event) : Option Reply × Event :=
  if h : slot < 32 then answered (f ⟨slot, h⟩) else (plain .badRange, e)

/-- MANUAL_TAKE of a slot (R187). -/
def Event.manualTake (e : Event) (i : Fin 32) : Result × Event :=
  let s := e.st
  let r := s.slotAt i
  if s.agent.service.isNone ∨ s.budget.state ≠ .live ∨ !r.takeable then (.badState, e)
  else if r.manual then (.ok, e)
  else
    match r.entry with
    | none => (.badState, e)
    | some l =>
      if s.poolBudget l.pool < l.rated + s.reservedPower i l.pool then (.refusedBudget, e)
      else (.ok, e.takeSlot i)

/-- MANUAL_RELEASE of a slot (R187). -/
def Event.manualRelease (e : Event) (i : Fin 32) : Result × Event :=
  if (e.st.slotAt i).manual then (.ok, e.releaseSlot i) else (.badState, e)

/-! ## The other requests -/

/-- IDENTIFY (R178). -/
def Event.identify (e : Event) : Option Reply × Event :=
  (withData
      (bytes16 Config.partCode ++ [Config.siliconRevision, e.st.path.node.zeroExtend 8]), e)

/-- READ_CAUSE returns the cause and clears it (R189). -/
def Event.readCause (e : Event) : Option Reply × Event :=
  (withData [e.st.agent.cause.code],
    e.map fun s => { s with agent := { s.agent with cause := .none } })

/-- OVERRIDE: the action with origin DEPOT, its status frames, and the outcome as data (R113, R118).
-/
def Event.overrideRequest (e : Event) (action kind target : Byte) (value : Int) (minutes : Nat) :
    Option Reply × Event :=
  let e :=
    match action.toNat with
    | 0 => e.set .depot kind target value minutes
    | 1 => e.cancel .depot kind target
    | 2 => e.cancelAll .depot
    | _ => e.result .refusedInvalid
  let e := e.sendStatuses
  let u := e.st.override
  (withData [u.lastResult.code, u.revision, byteOf u.entries.length], e)

/-- RESTART (R190). -/
def Event.restart (e : Event) : Option Reply × Event :=
  if e.st.agent.storeOp.isSome then (plain .busy, e)
  else
    (some { result := .ok, data := [], marked := true },
      e.map fun s => { s with agent := { s.agent with restartPending := true } })

/-- A request handled by its rule; a STORE that runs forms no reply yet (R176 step 6). -/
def Event.handle (e : Event) (sequence : Byte) : Request → Option Reply × Event
  | .identify => e.identify
  | .readCause => e.readCause
  | .status page => e.status page
  | .read segment index part => e.readPart segment index part
  | .loadBegin segment index mode => e.loadBegin segment index mode
  | .loadData part last data => e.loadData part last data
  | .loadEnd => e.loadEnd
  | .store => e.store sequence
  | .serviceEnter allow => e.serviceEnter allow
  | .serviceExit => e.serviceExit
  | .forceChannel channel value => answered (e.forceChannel channel value)
  | .releaseChannel channel => answered (e.releaseChannel channel)
  | .manualTake slot => onSlot e slot e.manualTake
  | .manualRelease slot => onSlot e slot e.manualRelease
  | .actuatorClear slot => onSlot e slot e.clearActuator
  | .noticeClear named => answered (e.noticeClear named)
  | .noticeTest => (plain .ok, e.raise .test)
  | .faultRead => (withData (faultBytes e.st.notice.record), e)
  | .faultClear => (plain .ok, e.clearFault)
  | .override action kind target value minutes =>
    e.overrideRequest action kind target value minutes
  | .restart => e.restart

/-- Steps 3 to 6 of a request: the answer, and the event (R176). -/
def Event.answer (e : Event) (payload : List Byte) (sequence : Byte) : Option Reply × Event :=
  let opcode := u8At payload 0
  if e.st.agent.restartPending then (plain .busy, e)
  else
    match parameterBytes opcode, requestOf opcode payload with
    | some n, some request =>
      if payload.length < n + 1 then (plain .badRange, e) else e.handle sequence request
    | _, _ => (plain .badOpcode, e)

/-- The agent takes a request (R176; the order of its frames is log entry 11). It acts after the hand-over of
the session it breaks and before the budget pass of the event: where a broken SUPPLY session has a pass adopt
faulty LOADS contents, a FAULT_READ reads and a FAULT_CLEAR clears before the fault of that pass (DESIGN
CHOICE, log entry 39). -/
def Event.request (e : Event) (f : Frame) : Event :=
  let opcode := byteAt f.payload 0
  let e := e.map State.touchService
  let e := if keepsSession opcode.toNat then e else e.breakSession
  let r := e.answer f.payload f.sequence
  match r.1 with
  | some x => r.2.reply opcode f.sequence x
  | none => r.2

/-! ## The commands -/

/-- SESSION_TIMER_EXPIRY: the session ends broken (R183). -/
def execSessionTimerExpiry (s : State) : Answer :=
  match s.agent.session with
  | some x => onExpiry s x.timer fun s => ((Event.of s).breakSession).finish
  | none => .next s

/-- The store operation's copy is in place and the operation idle (R184). -/
def State.putStored (s : State) (x : StoreOp) : State :=
  { s with agent := { s.agent with stored := .whole x.contents, storeOp := none } }

/-- STORE_COMPLETION: the copy and its check are in place, and the reply OK is offered. While the
reset input is held the copy completes and nothing is sent; without supply it does not complete
(R184, R188, log entry 3). -/
def execStoreCompletion (s : State) : Answer :=
  match s.agent.storeOp with
  | none => .next s
  | some x =>
    if !s.pins.supplyUp then .next s
    else if s.pins.resetHeld then .next (s.putStored x)
    else
      .next (((Event.of (s.putStored x)).reply 0x08 x.sequence
        { result := .ok, data := [], marked := false }).done)

/-- INACTIVITY_EXPIRY: the end of service mode (R185, R186). -/
def execInactivityExpiry (s : State) : Answer :=
  match s.agent.service with
  | some x => onExpiry s x.timer fun s => ((Event.of s).endService).finish
  | none => .next s

end Sys2Proof.Machine
end

