-- ==== Sys2Proof/Machine/Path.lean ====
section
/-!
DEFINITION. The frame path (chapter 8): reception and plant silence, the classifier and what it hands
on, freshness, guarded forwarding, and the completion of transmissions.
-/

namespace Sys2Proof.Machine

/-! ## Reception (R144 to R146) -/

/-- The receive queue of a port. -/
def FramePath.received (p : FramePath) : Port → List Frame
  | .vehicle => p.vehicleRx
  | .plant => p.plantRx

/-- The path with a port's receive queue written. -/
def FramePath.setReceived (p : FramePath) (port : Port) (l : List Frame) : FramePath :=
  match port with
  | .vehicle => { p with vehicleRx := l }
  | .plant => { p with plantRx := l }

/-- A well-formed plant frame restarts the silence timer and ends PLANT_SILENT (R145). -/
def State.hearPlant (s : State) : Port → State
  | .vehicle => s
  | .plant => { s with path := { s.path with plantSilence := s.timer 1000, plantSilent := false } }

/-- A well-formed frame is offered to the port's receive queue (R146). -/
def Event.receive (e : Event) (port : Port) (f : Frame) : Event :=
  let p := e.st.path
  if (p.received port).length < 16 then
    e.map fun s => { s with path := p.setReceived port (p.received port ++ [f]) }
  else e.raise .portOverrun

/-- FRAME_RECEPTION (R144 to R146). -/
def execFrameReception (port : Port) (bytes : List Byte) (s : State) : Answer :=
  whenRunning s fun s =>
    match parseFrame bytes with
    | some f => (((Event.of s).map fun s => s.hearPlant port).receive port f).done
    | none => ((Event.of s).raise .frameError).done

/-- PLANT_SILENCE_EXPIRY (R145). -/
def execPlantSilenceExpiry (s : State) : Answer :=
  onExpiry s s.path.plantSilence fun s =>
    ((Event.of s).map fun s =>
      { s with path := { s.path with plantSilence := none, plantSilent := true } }).done

/-! ## The stream table (R152 to R154) -/

/-- The table entry of a side and stream. -/
def Classifier.find (c : Classifier) (side : Port) (stream : StreamId) : Option StreamRec :=
  c.table.find? fun r => r.entry.side == side && r.entry.stream == stream

/-- The classifier with an entry's record changed. -/
def Classifier.update (c : Classifier) (side : Port) (stream : StreamId) (f : StreamRec → StreamRec) :
    Classifier :=
  { c with
    table := c.table.map fun r =>
      if r.entry.side = side ∧ r.entry.stream = stream then f r else r }

/-- The event that the receiving block of a role takes at a freshness expiry (R154). -/
def Role.expiryEvent : Role → Option Instr
  | .channel c => some (.channelFreshnessExpiry c)
  | .door d => some (.doorStale d)
  | .supply => some .supplyFreshnessExpiry
  | .none => Option.none
  | .console => Option.none
  | .echo _ => Option.none

/-- The entry takes its frames: TAKE or TAKE_PASS. -/
def Disposition.takes : Disposition → Bool
  | .take => true
  | .takePass => true
  | .pass => false
  | .guarded => false
  | .drop => false

/-- The entry has a freshness timer (R154). -/
def StreamEntry.timed (e : StreamEntry) : Bool :=
  e.disposition.takes && e.role.expiryEvent.isSome && e.freshness != 0

/-- The event a console frame is, by its action; a frame of another kind is none (R112, R193). Of a value
or duration cut short after its first byte, that byte is the high byte and the missing one is 0 (log
entry 30). -/
def consoleEvent (f : Frame) : Option Instr :=
  if f.kind = .command then
    match f.payload with
    | [] => some .undefinedConsoleAction
    | action :: _ =>
      match action.toNat with
      | 0 =>
        some (.set (byteAt f.payload 1) (byteAt f.payload 2) (word16At f.payload 3)
          (word16At f.payload 5))
      | 1 => some (.cancel (byteAt f.payload 1) (byteAt f.payload 2))
      | 2 => some .cancelAll
      | 3 => some .ackNotices
      | _ => some .undefinedConsoleAction
  else none

/-- The event that the receiving block of a role takes for a frame (R149). -/
def Role.frameEvent : Role → Frame → Option Instr
  | .none, _ => Option.none
  | .channel c, f => some (.sampleFrame c f)
  | .door d, f => some (.doorFrame d f)
  | .supply, f => some (.supplyFrame f)
  | .console, f => consoleEvent f
  | .echo i, f => some (.echoFrame i f)

/-- An event handed to its block, which takes it as an event of its own (R152, R154). -/
def State.hand (s : State) (port : Option Port) (event : Option Instr) : State :=
  match event with
  | some c =>
    { s with
      classifier := { s.classifier with handed := s.classifier.handed ++ [{ port, event := c }] } }
  | none => s

/-! ## Classification (R148, R152, R156) -/

/-- A frame is offered to the opposite port (R152). -/
def Event.forward (e : Event) (port : Port) (f : Frame) : Event :=
  match port with
  | .vehicle => e.offerForward { frame := f, guardSlot := none }
  | .plant => e.offerVehicle false { frame := f, restartReply := false }

/-- The default disposition of a port (R151). -/
def Classifier.passes (c : Classifier) : Port → Bool
  | .vehicle => c.port.vehiclePasses
  | .plant => c.port.plantPasses

/-- The frame is forwarded under guard: a COMMAND, in service mode, with the slot MANUAL (R156). -/
def State.guardOpen (s : State) (i : Fin 32) (f : Frame) : Bool :=
  f.kind == .command && s.agent.service.isSome && (s.slotAt i).manual

/-- The record of an entry that accepts a frame: the sequence is taken, and the freshness timer
restarted where the entry has one (R153, R154). -/
def StreamRec.accept (r : StreamRec) (sequence : Byte) (timer : Timer) : StreamRec :=
  { r with
    lastSequence := some sequence
    freshness := if r.entry.timed then timer else r.freshness }

/-- The disposition of an accepted frame is applied (R149, R152, R156). -/
def Event.dispose (e : Event) (port : Port) (entry : StreamEntry) (f : Frame) : Event :=
  let hand : Event → Event := fun e => e.map fun s => s.hand (some port) (entry.role.frameEvent f)
  match entry.disposition with
  | .pass => e.forward port f
  | .take => hand e
  | .takePass => (hand e).forward port f
  | .guarded =>
    if e.st.guardOpen entry.guardSlot f then
      e.offerForward { frame := f, guardSlot := some entry.guardSlot }
    else e
  | .drop => e

/-- A frame is looked up and receives its disposition (R152, R153). -/
def Event.lookUp (e : Event) (port : Port) (f : Frame) : Event :=
  match e.st.classifier.find port f.stream with
  | none => if e.st.classifier.passes port then e.forward port f else e
  | some r =>
    if r.lastSequence = some f.sequence then e
    else
      (e.map fun s =>
        { s with
          classifier := s.classifier.update port f.stream fun r =>
            r.accept f.sequence (s.timer (100 * r.entry.freshness)) }).dispose port r.entry f

/-- The frame is a request to this controller's management agent (R148). -/
def State.isRequest (s : State) (port : Port) (f : Frame) : Bool :=
  match port with
  | .vehicle => f.kind == .manage && f.stream == manageStream s.path.node
  | .plant => false

/-- The frame is dropped because the plant side may not use the controller's own streams (R148). -/
def State.isForeign (s : State) (port : Port) (f : Frame) : Bool :=
  match port with
  | .vehicle => false
  | .plant => isOwnStream s.path.node f.stream

/-- The event in which a frame is classified (R148, R152). A management request acts in this event, while
older frames of its port may still wait for their blocks (log entry 2). -/
def classify (s : State) (port : Port) (f : Frame) : State :=
  let e := Event.of s
  if s.isRequest port f then (e.request f).finishOrRestart
  else if s.isForeign port f then s
  else (e.lookUp port f).done

/-- CLASSIFY_FRAME: the head frame leaves its receive queue. With an empty queue there is no event
(R146, R152). -/
def execClassifyFrame (port : Port) (s : State) : Answer :=
  whenRunning s fun s =>
    match s.path.received port with
    | [] => s
    | f :: rest => classify { s with path := s.path.setReceived port rest } port f

/-- The event in which a freshness timer expires: it stays stopped, and the expiry is delivered
(R154). -/
def expireFreshness (s : State) (side : Port) (stream : StreamId) (role : Role) : State :=
  { s with
    classifier := s.classifier.update side stream fun r => { r with freshness := none } }.hand none
      role.expiryEvent

/-- FRESHNESS_EXPIRY (R154). -/
def execFreshnessExpiry (side : Port) (stream : StreamId) (s : State) : Answer :=
  match s.classifier.find side stream with
  | some r => onExpiry s r.freshness fun s => expireFreshness s side stream r.entry.role
  | none => .next s

/-! ## Completion of transmissions (R157, R161) -/

/-- The event in which a vehicle transmission completes: the next frame begins, and the completion of
the reply to RESTART performs the reset, in this order (R157, R190, log entry 38). -/
def completeVehicle (s : State) (f : VehicleFrame) : State :=
  let s := { s with path := { s.path with vehicleTx := none }.beginVehicle }
  if f.restartReply then s.restart else s

/-- VEHICLE_TX_COMPLETION (R157, log entry 28). -/
def execVehicleTxCompletion (s : State) : Answer :=
  whenRunning s fun s =>
    match s.path.vehicleTx with
    | some f => completeVehicle s f
    | none => s

/-- PLANT_TX_COMPLETION (R161, log entry 28). -/
def execPlantTxCompletion (s : State) : Answer :=
  whenRunning s fun s =>
    match s.path.plantTx with
    | some _ => { s with path := { s.path with plantTx := none }.beginPlant }
    | none => s

end Sys2Proof.Machine
end

