-- ==== Sys2Proof/Machine/Zones.lean ====
section
/-!
DEFINITION. The zone regulator's events (chapter 1): the adoption of zone entries and of the
schedule, the active band, the modes, the regulation pass, and the end of a bank release.
-/

namespace Sys2Proof.Machine

/-! ## Adoption of zone entries (R24, R25) -/

/-- The zone takes part in regulation again: REGULATE with I at 0 and no preset owed (R24). -/
def ZoneRec.restarted (r : ZoneRec) : ZoneRec := { r with mode := .regulate, i := 0, preset := false }

/-- A zone's record under a new entry, by what changed (R24). -/
def ZoneRec.adopt (r : ZoneRec) (entry : ZoneEntry) : ZoneRec :=
  let new := { r with entry, adoptPending := false }
  let new :=
    if r.entry.members ≠ entry.members ∨ r.entry.part ≠ entry.part then
      { new.restarted with satCount := 0 }
    else new
  if r.mode = .off ∧ entry.enabled then new.restarted else new

/-- Pending ZONES contents adopted for a zone: its slots are released, the entry taken, and the new
ladder claimed (R24, R25, R33, log entries 14 and 25). -/
def Event.adoptZone (e : Event) (z : Fin 8) : Event :=
  let r := e.st.zoneAt z
  if r.adoptPending && !r.doorHold && !e.st.sessionOn SegmentId.zones then
    let read := readZone (entryAt (e.st.agent.contents.get SegmentId.zones) z.val)
    let e := e.faults .tableInconsistent (failures z.val read.2)
    (e.map fun s => (s.releaseLadder z).setZone z (r.adopt read.1)).claimLadder z 0 read.1.ladder
  else e

/-! ## The schedule (R7 to R9) -/

/-- The plain lookup: the band that covers an outdoor value (R7). -/
def bandFor : List Band → Int → Option Nat
  | [], _ => none
  | [_], _ => some 0
  | b :: rest, to_ => if to_ < b.bound then some 0 else (bandFor rest to_).map (· + 1)

/-- Whether an active band moves: up past its own bound or down past the bound below it, by 100 (R8).
-/
def bandMoves (list : List Band) (k : Nat) (to_ : Int) : Bool :=
  let up :=
    k + 1 < list.length && ((list[k]?).any fun b => decide (b.bound + 100 ≤ to_))
  let down :=
    k ≠ 0 && ((list[k - 1]?).any fun b => decide (to_ ≤ b.bound - 100))
  up || down

/-- The active band after the evaluation of R8. -/
def ZoneRegulator.nextBand (x : ZoneRegulator) (to_ : Int) (unknown : Bool) : Option Nat :=
  match x.activeBand with
  | none => bandFor x.schedule to_
  | some k => if !unknown && bandMoves x.schedule k to_ then bandFor x.schedule to_ else some k

/-- The active band re-evaluated (R8). -/
def State.evaluateBand (s : State) : State :=
  { s with
    zone := { s.zone with
      activeBand := s.zone.nextBand s.sample.outdoor s.sample.outdoorUnknown } }

/-- The active band chosen again at the adoption of a list (R9, log entry 10). -/
def bandAtAdoption (list : List Band) (held : Option Nat) (to_ : Int) (unknown : Bool) : Option Nat :=
  if list.isEmpty then none
  else if unknown then held.map fun k => if k < list.length then k else list.length - 1
  else bandFor list to_

/-- Pending SCHEDULE contents adopted (R9). -/
def Event.adoptSchedule (e : Event) : Event :=
  if e.st.zone.schedulePending && !e.st.sessionOn SegmentId.schedule then
    let read := readSchedule (e.st.agent.contents.get SegmentId.schedule)
    (e.faults .tableInconsistent read.2.toList).map fun s =>
      { s with
        zone := { s.zone with
          schedule := read.1
          schedulePending := false
          activeBand :=
            bandAtAdoption read.1 s.zone.activeBand s.sample.outdoor s.sample.outdoorUnknown } }
  else e

/-! ## The pass (R10 to R19) -/

/-- What a pass reads from other blocks: the usable members with their weights, the base setpoint,
the offset and the outdoor value (R6). -/
structure PassInput where
  members : List (Int × Nat)
  base : Int
  offset : Int
  outdoor : Int
  deriving DecidableEq, Repr

/-- The value a member contributes, absent when it is not usable (R10, R11). -/
def State.memberValue (s : State) (m : Member) : Option (Int × Nat) :=
  if h : m.channel < 48 then (s.channelAt ⟨m.channel, h⟩).value.map fun v => (v, m.weight) else none

/-- The base setpoint of a zone (R7, R12). -/
def State.baseSetpoint (s : State) (z : Fin 8) : Int :=
  match s.zone.activeBand.bind (s.zone.schedule[·]?) with
  | some b => if z = 0 then b.cab else b.saloon
  | none => 2000

/-- The inputs of a zone's pass as they stand (R6). -/
def State.passInput (s : State) (z : Fin 8) : PassInput :=
  { members := (s.zoneAt z).entry.members.filterMap s.memberValue
    base := s.baseSetpoint z
    offset := s.setpointOffset z
    outdoor := s.sample.outdoor }

/-- Step 1: the weighted mean of the usable members (R11). -/
def measure (mode : Rounding) (members : List (Int × Nat)) : Option Int :=
  if members.isEmpty then none
  else
    some (mode.div ((members.map fun m => m.1 * (m.2 : Int)).sum) ((members.map Prod.snd).sum : Nat))

/-- Step 2: the setpoint (R12). -/
def ZoneRec.setpoint (r : ZoneRec) (z : Fin 8) (x : PassInput) : Int :=
  let bank : Int := if r.banking then r.entry.bankMargin else 0
  let boost : Int := if z = 0 ∧ r.boost then 300 else 0
  clamp (x.base + x.offset + bank + boost) r.entry.setMin r.entry.setMax

/-- The feedforward term F (R13). -/
def ZoneEntry.feedforward (e : ZoneEntry) (outdoor : Int) : Int :=
  clamp (e.rounding.div (e.kf * (e.tbal - outdoor)) 256) (-10000) 10000

/-- A hold of R15. -/
def ZoneRec.held (r : ZoneRec) (z : Fin 8) : Bool :=
  r.doorHold || (if z = 0 then r.heatMax else r.climateOff)

/-- The accumulator limited (R14, R17). -/
def clampI (i : Int) : Int := clamp i (-2560000) 2560000

/-- The sum U for an accumulator (R14, R15). -/
def ZoneRec.sum (r : ZoneRec) (p i : Int) : Int := p + r.entry.rounding.div i 256 + r.f + r.g

/-- A rejection of R15, for a candidate. -/
def ZoneRec.rejects (r : ZoneRec) (e u candidate : Int) : Bool :=
  (r.heatLimited && decide (0 < e)) || (r.coolLimited && decide (e < 0)) ||
    (decide (10000 < u) && decide (0 < e)) || (decide (u < -10000) && decide (e < 0)) ||
    (r.bankRelease && decide (candidate < r.i))

/-- The bumpless preset: made in a pass that owes one and is under no hold (R17). -/
def ZoneRec.presetI (r : ZoneRec) (z : Fin 8) (p : Int) : ZoneRec :=
  if r.preset ∧ !r.held z then
    { r with i := clampI ((r.lastD - p - r.f - r.g) * 256), preset := false }
  else r

/-- Step 10: the output D from U (R18). -/
def ZoneRec.output (r : ZoneRec) (z : Fin 8) (u : Int) : Int :=
  let d := clamp u (-10000) 10000
  let d := if d < 0 ∧ (!r.entry.cool ∨ r.mode = .fallback ∨ r.bankRelease) then 0 else d
  if z = 0 then
    let d := if r.floor then max d 6000 else d
    if r.heatMax then 10000 else d
  else if r.climateOff then 0
  else d

/-- Step 11: the saturation pass count (R19). -/
def nextSatCount (u : Int) (count : Nat) : Nat :=
  if 10000 < u.natAbs then min (count + 1) 1200 else 0

/-- Steps 10 and 11 from the U that stands (R18, R19). -/
def ZoneRec.conclude (r : ZoneRec) (z : Fin 8) (u : Int) : ZoneRec :=
  { r with d := r.output z u, satCount := nextSatCount u r.satCount }

/-- A pass in REGULATE from the error on (R13 to R15, R17). -/
def ZoneRec.regulate (r : ZoneRec) (z : Fin 8) (err : Int) : ZoneRec :=
  let p := r.entry.rounding.div (r.entry.kp * err) 256
  let r := ({ r with e := some err, p := some p }).presetI z p
  let candidate := clampI (r.i + r.entry.ki * err)
  let u := r.sum p candidate
  if r.held z || r.rejects err u candidate then r.conclude z (r.sum p r.i)
  else { r with i := candidate }.conclude z u

/-- The mode after the table of R10, for an enabled entry. -/
def ZoneRec.nextMode (r : ZoneRec) (usable : Bool) : ZoneRec :=
  match r.mode, usable with
  | .off, true => { r with mode := .regulate, i := 0 }
  | .off, false => { r with mode := .fallback, i := 0, preset := false }
  | .regulate, true => r
  | .regulate, false => { r with mode := .fallback, preset := false }
  | .fallback, true => { r with mode := .regulate, preset := true }
  | .fallback, false => r

/-- The pass of an OFF zone (R26). -/
def ZoneRec.offPass (r : ZoneRec) : ZoneRec :=
  { r with
    mode := .off
    tm := none
    e := none
    p := none
    i := 0
    d := 0
    preset := false
    satCount := 0 }

/-- A pass of a zone, after adoption and the band evaluation (R10 to R19, R26). -/
def ZoneRec.pass (r : ZoneRec) (z : Fin 8) (x : PassInput) : ZoneRec :=
  if !r.entry.enabled then r.offPass
  else
    let tm := measure r.entry.rounding x.members
    let r := r.nextMode tm.isSome
    let r := { r with tm, ts := r.setpoint z x, f := r.entry.feedforward x.outdoor }
    match tm with
    | some t => r.regulate z (clamp (r.ts - t) (-2000) 2000)
    | none =>
      { r with e := none, p := none }.conclude z (r.f + r.g + (r.entry.fallbackBias : Int))

/-! ## The commands -/

/-- The hand-off that ends a pass: last D takes D, the timer is restarted, and the first hand-off
after reset ends the start-up hold (R5, R20, R28, log entry 22). -/
def Event.endPass (e : Event) (z : Fin 8) : Event :=
  let r := e.st.zoneAt z
  let ended := e.st.actuator.startHold
  let e := e.map fun s =>
    { s.setZone z
        { r with lastD := r.d, passTimer := s.timer (100 * r.entry.passPeriod) } with
      actuator := { s.actuator with startHold := false } }
  { e.handOff z with holdEnded := ended }

/-- The steps of a zone's pass (R5, R8 to R20, R24). The dampers follow a pass that changes the
active band or adopts the schedule (R42). -/
def Event.pass (e : Event) (z : Fin 8) : Event :=
  let before := e.st.zone
  let e := ((e.adoptZone z).adoptSchedule).map State.evaluateBand
  let e := e.map fun s => s.setZone z ((s.zoneAt z).pass z (s.passInput z))
  let e := e.endPass z
  if e.st.zone.activeBand ≠ before.activeBand ∨
      (before.schedulePending ∧ !e.st.zone.schedulePending) then
    e.putDampers fun _ => true
  else e

/-- ZONE_PASS (R5). -/
def execZonePass (z : Fin 8) (s : State) : Answer :=
  onExpiry s (s.zoneAt z).passTimer fun s => ((Event.of s).pass z).finish

/-- BANK_RELEASE_EXPIRY: the zone clears bank release (R22). -/
def execBankReleaseExpiry (z : Fin 8) (s : State) : Answer :=
  onExpiry s (s.zoneAt z).bankTimer fun s =>
    s.setZone z { s.zoneAt z with bankRelease := false, bankTimer := none }

end Sys2Proof.Machine
end

