-- ==== Sys2Proof/Machine/Clock.lean ====
section
/-!
DEFINITION. What the controller does when no command waits (log entries 1 and 2): it takes the oldest
event that the classifier has handed on, or an expiry whose moment has come, and otherwise lets one
millisecond of part time pass.
-/

namespace Sys2Proof.Machine

/-- The timers of the frame path and of the stream entries, with their expiries. -/
def State.pathTimers (s : State) : List (Timer × Instr) :=
  (s.path.plantSilence, .plantSilenceExpiry) ::
    s.classifier.table.map fun r => (r.freshness, .freshnessExpiry r.entry.side r.entry.stream)

/-- The timers of the sample, door and glazing units. -/
def State.roomTimers (s : State) : List (Timer × Instr) :=
  (allChannels.map fun c => ((s.channelAt c).staleTimer, .staleTimerExpiry c)) ++
    (allDoors.map fun d => ((s.doorAt d).stepTimer, .doorStep d)) ++
    (allZones.map fun z => (s.holdOverAt z, .holdOverExpiry z)) ++
    (allPanels.map fun p => ((s.panelAt p).escalateTimer, .escalateExpiry p)) ++
    (allPanels.map fun p => ((s.panelAt p).runOnTimer, .runOnExpiry p)) ++
    (allPanels.map fun p => ((s.panelAt p).evalTimer, .panelEvaluation p))

/-- A compressor's timers. -/
def State.compressorTimers (s : State) (x : BodySection) : List (Timer × Instr) :=
  match (s.sectionAt x).compressor with
  | some r => [(r.minRunTimer, .minimumRunExpiry x), (r.lockTimer, .lockExpiry x)]
  | none => []

/-- The timers of the supply and budget unit, the compressors, the zones and the slots. -/
def State.powerTimers (s : State) : List (Timer × Instr) :=
  [ (s.budget.settleTimer, .settleExpiry), (s.budget.gapTimer, .gapExpiry),
    (s.budget.periodTimer, .budgetPeriodExpiry) ] ++
    (allSections.flatMap fun x => s.compressorTimers x) ++
    (allZones.map fun z => ((s.zoneAt z).bankTimer, .bankReleaseExpiry z)) ++
    (allZones.map fun z => ((s.zoneAt z).passTimer, .zonePass z)) ++
    (allSlots.map fun i => ((s.slotAt i).refreshTimer, .refreshExpiry i))

/-- The timers of the override unit and of the management agent, with the moment by which a store
operation completes (R184). -/
def State.agentTimers (s : State) : List (Timer × Instr) :=
  (s.override.entries.map fun x => (x.expiry, .overrideExpiry x.kind.code x.target.code)) ++
    [ (s.override.statusTimer, .statusTimerExpiry),
      (s.agent.session.bind Session.timer, .sessionTimerExpiry),
      (s.agent.service.bind Service.timer, .inactivityExpiry),
      (s.agent.storeOp.map StoreOp.limit, .storeCompletion) ]

/-- Every timer of the controller, with its expiry. The order is the one in which expiries of one
moment are taken when no command names one (log entry 1). -/
def State.timers (s : State) : List (Timer × Instr) :=
  s.pathTimers ++ s.roomTimers ++ s.powerTimers ++ s.agentTimers

/-- A running timer whose moment has come. -/
def State.due (s : State) (t : Timer) : Bool :=
  match t with
  | some at_ => s.remaining at_ == 0
  | none => false

/-- The event the controller takes of its own accord: the oldest handed event, else a due expiry. -/
def State.ownEvent (s : State) : Option Instr :=
  match s.classifier.handed with
  | h :: _ => some h.event
  | [] => (s.timers.find? fun x => s.due x.1).map Prod.snd

/-- One millisecond of part time passes (section 4.3). -/
def State.tick (s : State) : State := { s with partTime := s.partTime + 1 }

end Sys2Proof.Machine
end

