-- ==== Sys2Proof/Machine/Dispatch.lean ====
section
/-!
DEFINITION. The dispatch of a command to its meaning, one arm for each row of spec/opcode_table.json.
-/

namespace Sys2Proof.Machine

def exec (i : Instr) (s : State) : Host.Outcome State Fault Refusal :=
  match i with
  | .powerOn straps => Sys2Proof.Machine.execPowerOn straps s
  | .lineReset straps => Sys2Proof.Machine.execLineReset straps s
  | .frameReception port bytes => Sys2Proof.Machine.execFrameReception port bytes s
  | .plantSilenceExpiry => Sys2Proof.Machine.execPlantSilenceExpiry s
  | .classifyFrame port => Sys2Proof.Machine.execClassifyFrame port s
  | .freshnessExpiry side stream => Sys2Proof.Machine.execFreshnessExpiry side stream s
  | .sampleFrame channel frame => Sys2Proof.Machine.execSampleFrame channel frame s
  | .channelFreshnessExpiry channel => Sys2Proof.Machine.execChannelFreshnessExpiry channel s
  | .staleTimerExpiry channel => Sys2Proof.Machine.execStaleTimerExpiry channel s
  | .doorFrame door frame => Sys2Proof.Machine.execDoorFrame door frame s
  | .doorStale door => Sys2Proof.Machine.execDoorStale door s
  | .doorStep door => Sys2Proof.Machine.execDoorStep door s
  | .holdOverExpiry zone => Sys2Proof.Machine.execHoldOverExpiry zone s
  | .supplyFrame frame => Sys2Proof.Machine.execSupplyFrame frame s
  | .supplyFreshnessExpiry => Sys2Proof.Machine.execSupplyFreshnessExpiry s
  | .settleExpiry => Sys2Proof.Machine.execSettleExpiry s
  | .gapExpiry => Sys2Proof.Machine.execGapExpiry s
  | .budgetPeriodExpiry => Sys2Proof.Machine.execBudgetPeriodExpiry s
  | .minimumRunExpiry part => Sys2Proof.Machine.execMinimumRunExpiry part s
  | .lockExpiry part => Sys2Proof.Machine.execLockExpiry part s
  | .zonePass zone => Sys2Proof.Machine.execZonePass zone s
  | .bankReleaseExpiry zone => Sys2Proof.Machine.execBankReleaseExpiry zone s
  | .panelEvaluation panel => Sys2Proof.Machine.execPanelEvaluation panel s
  | .escalateExpiry panel => Sys2Proof.Machine.execEscalateExpiry panel s
  | .runOnExpiry panel => Sys2Proof.Machine.execRunOnExpiry panel s
  | .refreshExpiry slot => Sys2Proof.Machine.execRefreshExpiry slot s
  | .echoFrame slot frame => Sys2Proof.Machine.execEchoFrame slot frame s
  | .set kind target value duration => Sys2Proof.Machine.execSet kind target value duration s
  | .cancel kind target => Sys2Proof.Machine.execCancel kind target s
  | .cancelAll => Sys2Proof.Machine.execCancelAll s
  | .ackNotices => Sys2Proof.Machine.execAckNotices s
  | .overrideExpiry kind target => Sys2Proof.Machine.execOverrideExpiry kind target s
  | .statusTimerExpiry => Sys2Proof.Machine.execStatusTimerExpiry s
  | .vehicleTxCompletion => Sys2Proof.Machine.execVehicleTxCompletion s
  | .plantTxCompletion => Sys2Proof.Machine.execPlantTxCompletion s
  | .sessionTimerExpiry => Sys2Proof.Machine.execSessionTimerExpiry s
  | .storeCompletion => Sys2Proof.Machine.execStoreCompletion s
  | .inactivityExpiry => Sys2Proof.Machine.execInactivityExpiry s
  | .undefinedConsoleAction => Sys2Proof.Machine.execUndefinedConsoleAction s
  | .supplyDown => Sys2Proof.Machine.execSupplyDown s
  | .resetInputHeld => Sys2Proof.Machine.execResetInputHeld s

end Sys2Proof.Machine
end

