-- ==== Sys2Proof/Machine/Step.lean ====
section
/-!
DEFINITION. One step of the controller: the command at the front of the queue, or, on an empty queue,
what the controller does of its own accord (log entry 1).
-/

namespace Sys2Proof.Machine

/-- The step on an empty queue: an event of the controller's own, or a millisecond of part time. While
the supply is down or the reset input is held nothing happens. -/
def idle (s : State) : Host.Outcome State Fault Refusal :=
  if s.running then
    match s.ownEvent with
    | some c => exec c s
    | none => .next s.tick
  else .next s

/-- One step: the command at the front of the queue is taken with the queue's rest. -/
def step (s : State) : Host.Outcome State Fault Refusal :=
  match s.pending with
  | c :: rest => exec c { s with pending := rest }
  | [] => idle s

/-- The state with the command a table word spells put at the front of the queue; no word spells
one. -/
def State.withFetchWord (s : State) (nbits w : Nat) : State :=
  match decodeTableWord nbits w with
  | some c => { s with pending := c :: s.pending }
  | none => s

end Sys2Proof.Machine
end

