-- ==== Sys2Proof/Safety.lean ====
section
/-!
DEFINITION. The terms that claims use: the parts of the state and what it means to leave one alone, what
an event raises, records and ends, safe runs, and the invariants of a reachable state.
-/

namespace Sys2Proof.Machine

/-! ## Parts of the state -/

/-- The parts a claim speaks of. `zones` is the zone records without the two limited flags, which are
`limits`; `supply` is the supply and budget unit without the request and grant tables, which are
`rows`. -/
inductive Part where
  | commands
  | pins
  | clock
  | node
  | received
  | silence
  | vehicleLine
  | plantLine
  | streams
  | defaults
  | handed
  | channels
  | zones
  | limits
  | schedule
  | slots
  | sections
  | hold
  | loads
  | supply
  | rows
  | doors
  | panels
  | overrides
  | notices
  | agent
  deriving DecidableEq, Repr

/-- A zone record without its limited flags. -/
def ZoneRec.unlimited (r : ZoneRec) : ZoneRec := { r with heatLimited := false, coolLimited := false }

/-- Two states agree in a part. -/
def Part.same (s t : State) : Part → Prop
  | .commands => t.pending = s.pending
  | .pins => t.pins = s.pins
  | .clock => t.partTime = s.partTime
  | .node => t.path.node = s.path.node
  | .received => t.path.vehicleRx = s.path.vehicleRx ∧ t.path.plantRx = s.path.plantRx
  | .silence => t.path.plantSilence = s.path.plantSilence ∧ t.path.plantSilent = s.path.plantSilent
  | .vehicleLine => t.path.vehicleTx = s.path.vehicleTx ∧ t.path.vehicleQueue = s.path.vehicleQueue
  | .plantLine =>
    t.path.plantTx = s.path.plantTx ∧ t.path.forwardQueue = s.path.forwardQueue ∧
      t.path.commandSet = s.path.commandSet ∧ t.path.runCount = s.path.runCount
  | .streams => t.classifier.table = s.classifier.table
  | .defaults => t.classifier.port = s.classifier.port
  | .handed => t.classifier.handed = s.classifier.handed
  | .channels => t.sample = s.sample
  | .zones => ∀ z, (t.zoneAt z).unlimited = (s.zoneAt z).unlimited
  | .limits =>
    ∀ z, (t.zoneAt z).heatLimited = (s.zoneAt z).heatLimited ∧
      (t.zoneAt z).coolLimited = (s.zoneAt z).coolLimited
  | .schedule =>
    t.zone.schedule = s.zone.schedule ∧ t.zone.schedulePending = s.zone.schedulePending ∧
      t.zone.activeBand = s.zone.activeBand
  | .slots => t.actuator.slots = s.actuator.slots
  | .sections => t.actuator.sections = s.actuator.sections
  | .hold => t.actuator.startHold = s.actuator.startHold
  | .loads => t.actuator.loadsPending = s.actuator.loadsPending
  | .supply => { t.budget with rows := s.budget.rows } = s.budget
  | .rows => t.budget.rows = s.budget.rows
  | .doors => t.door = s.door
  | .panels => t.glazing = s.glazing
  | .overrides => t.override = s.override
  | .notices => t.notice = s.notice
  | .agent => t.agent = s.agent

/-- Two states agree in every part but the listed ones. -/
def AgreeExcept (touched : List Part) (s t : State) : Prop :=
  ∀ p : Part, p ∉ touched → p.same s t

/-! ## What an event does -/

/-- The part time of the event in which a running timer expires: its moment where that lies ahead, and
the present one where it is past (log entry 1). -/
def State.moment (s : State) (at_ : PartTime) : PartTime :=
  s.partTime + BitVec.ofNat 32 (s.remaining at_)

/-- The frames of the vehicle port on their way out: the one in transmission, then those waiting. -/
def FramePath.outgoing (p : FramePath) : List VehicleFrame := p.vehicleTx.toList ++ p.vehicleQueue

/-- What an event that changes no load may touch. -/
abbrev quietParts : List Part := [.vehicleLine, .plantLine, .notices]

/-- What an event that ends with the loads may touch: their contributions, requests, grants and
levels, the lines and the notice unit. -/
abbrev settledParts : List Part :=
  [.slots, .sections, .rows, .plantLine, .loads, .notices, .limits, .vehicleLine]

/-- The state in which the expiry of a timer is taken: part time stands at the expiry's moment. -/
def State.atExpiry (s : State) (at_ : PartTime) : State := { s with partTime := s.moment at_ }

/-- An event from `s` to `t` raises an edge source (R163 to R165): a valid source has its raw at 1,
and where the raw rose and the source is stored its status is set; an invalid source keeps its raw. -/
def State.raises (s t : State) (x : Source) : Prop :=
  if s.valid x then
    t.notice.raw x = true ∧
      (s.notice.raw x = false → t.notice.entry.stores x = true → t.notice.status x = true)
  else t.notice.raw x = s.notice.raw x

/-- An event from `s` to `t` records a fault (R174): an empty record takes it, with the part time and
the supply state of the event, and FAULT_RECORDED is raised; a holding record is flagged. -/
def State.faults (s t : State) (code : FaultCode) (index : Nat) : Prop :=
  (s.notice.record = none →
    (∃ further, t.notice.record =
      some { code, index, time := s.partTime, supply := s.budget.state, further }) ∧
      s.raises t .faultRecorded) ∧
  ∀ r, s.notice.record = some r → t.notice.record = some { r with further := true }

/-- Another door than `d` holds the zone (R84). -/
def State.heldByAnother (s : State) (d z : Fin 8) : Prop :=
  ∃ o, o ≠ d ∧ (s.doorAt o).entry.zone = some z ∧ (s.doorAt o).holding = true

/-- What the end of an opening of door `d` does to its zone (R79, R84, R85): the hold goes on where
another door holds, is kept by the hold-over timer, or ends at once with a hold-over of 0. -/
def State.holdEnds (s t : State) (d z : Fin 8) : Prop :=
  let r := s.doorAt d
  (r.holding = false ∨ s.heldByAnother d z →
    t.holdOverAt z = s.holdOverAt z ∧ (t.zoneAt z).doorHold = (s.zoneAt z).doorHold) ∧
  (r.holding = true → ¬ s.heldByAnother d z → 0 < r.entry.holdOver →
    t.holdOverAt z = s.timer (1000 * r.entry.holdOver) ∧
      (t.zoneAt z).doorHold = (s.zoneAt z).doorHold) ∧
  (r.holding = true → ¬ s.heldByAnother d z → r.entry.holdOver = 0 →
    t.holdOverAt z = none ∧ (t.zoneAt z).doorHold = false)

/-- An event at the doors of zone `z` leaves the other zones and hold-over timers as they are, and of
zone `z` writes no field but G and the door hold (R6). -/
def State.doorsOnly (s t : State) (z : Fin 8) : Prop :=
  (∀ y, y ≠ z → (t.zoneAt y).unlimited = (s.zoneAt y).unlimited ∧ t.holdOverAt y = s.holdOverAt y) ∧
  (t.zoneAt z).unlimited =
    { s.zoneAt z with g := (t.zoneAt z).g, doorHold := (t.zoneAt z).doorHold }.unlimited

/-- The records of the other doors are as they were. -/
def State.otherDoors (s t : State) (d : Fin 8) : Prop := ∀ o, o ≠ d → t.doorAt o = s.doorAt o

/-- The requests of class `k` of a pool, summed over the slots that take part and are not manual
(R65, R69, R70). -/
def State.classSum (s : State) (pool : Pool) (k : Fin 4) : Nat :=
  (allSlots.map fun i =>
    if (s.slotAt i).participates && (s.slotAt i).entry.any (·.pool = pool) &&
        !(s.slotAt i).manual && (s.rowAt i).cls == k then (s.rowAt i).request else 0).sum

/-- The requests of the manual slots of a pool, summed (R70). -/
def State.manualSum (s : State) (pool : Pool) : Nat :=
  (allSlots.map fun i =>
    if (s.slotAt i).participates && (s.slotAt i).entry.any (·.pool = pool) && (s.slotAt i).manual
    then (s.rowAt i).request else 0).sum

/-- What is left of a pool for class `k`, as an integer: below 0 when an earlier group did not fit
(R69, R70). -/
def State.leftFor (s : State) (pool : Pool) (k : Fin 4) : Int :=
  (s.poolBudget pool : Int) - s.manualSum pool -
    (((List.finRange 4).filter (· < k)).map fun j => (s.classSum pool j : Int)).sum

/-- A scaled grant below the minimum power is 0 (R71). -/
def scaledGrant (request power sum least : Nat) : Nat :=
  if request * power / sum < least then 0 else request * power / sum

/-- Every slot keeps its entry, state, MANUAL flag, mismatch count and owner. -/
def State.slotsKept (s t : State) : Prop :=
  ∀ i, (t.slotAt i).entry = (s.slotAt i).entry ∧ (t.slotAt i).state = (s.slotAt i).state ∧
    (t.slotAt i).manual = (s.slotAt i).manual ∧ (t.slotAt i).mismatch = (s.slotAt i).mismatch ∧
    (t.slotAt i).owner = (s.slotAt i).owner

/-- Every section keeps its cooling demand and its cooling call. -/
def State.callsKept (s t : State) : Prop :=
  ∀ x, (t.sectionAt x).demand = (s.sectionAt x).demand ∧ (t.sectionAt x).call = (s.sectionAt x).call

/-- A frame at a port is no management request, and uses none of the controller's own streams on the
plant side (R148). -/
def State.ordinary (s : State) (port : Port) (f : Frame) : Prop :=
  ¬ (port = .vehicle ∧ f.kind = .manage ∧ f.stream = manageStream s.path.node) ∧
    ¬ (port = .plant ∧ isOwnStream s.path.node f.stream = true)

/-- What holds after every kind of reset: POWER_ON, LINE_RESET with the supply up, and the RESTART
that the completion of its marked reply performs (R188, R190). -/
def AfterReset (s : State) (P : ResetCause → State → Prop) : Prop :=
  (∀ straps, ∃ t, exec (.powerOn straps) s = .next t ∧ t.path.node = straps ∧ P .powerOn t) ∧
  (s.pins.supplyUp = true →
    ∀ straps, ∃ t, exec (.lineReset straps) s = .next t ∧ t.path.node = straps ∧ P .line t) ∧
  (∀ f, s.running = true → s.path.vehicleTx = some f → f.restartReply = true →
    ∃ t, exec .vehicleTxCompletion s = .next t ∧ t.path.node = s.pins.straps ∧ P .restart t)

/-- A frame of the vehicle port that is this controller's own, as it leaves. -/
def ownFrame (f : Frame) : VehicleFrame := { frame := f, restartReply := false }

/-- The payload of the status frame of an entry of the list (R125, R195). -/
def State.entryBytes (s : State) (index : Nat) (x : OverrideEntry) : List Byte :=
  [byteOf index, x.kind.code, x.target.code] ++ bytes16 (BitVec.ofInt 16 x.value) ++
    [if x.origin = .console then (0 : Byte) else 1] ++
    bytes16 (match x.expiry with
      | some at_ => BitVec.ofNat 16 (ceilDiv (s.remaining at_) 60000)
      | none => 0xFFFF)

/-- The status frames of an event: the status timer is restarted with 5 s, and the sequence rises by one
for the header and one for each entry of the list at its end. Each frame is on its way where the queue had
room for it behind the earlier ones (R125, R157, R195). -/
def State.statusSent (s t : State) : Prop :=
  let u := t.override
  let frame := fun (k : Nat) (payload : List Byte) =>
    ownFrame (makeFrame (statusStream s.path.node) .state
      (s.override.statusSequence + 1 + BitVec.ofNat 8 k) payload)
  u.statusTimer = s.timer 5000 ∧
  u.statusSequence = s.override.statusSequence + 1 + BitVec.ofNat 8 u.entries.length ∧
  (s.path.vehicleQueue.length < 24 →
    frame 0 [0xFF, byteOf u.entries.length, u.revision, u.lastResult.code] ∈ t.path.outgoing) ∧
  ∀ k, ∀ x ∈ u.entries[k]?, s.path.vehicleQueue.length + k + 1 < 24 →
    frame (k + 1) (t.entryBytes k x) ∈ t.path.outgoing

/-- Every level raw equals its condition while its source is valid and is 0 otherwise (R163, R164). -/
def State.levelsFollow (s : State) : Prop :=
  ∀ x ∈ levelSources, s.notice.raw x = (s.valid x && s.condition x)

/-- No LOADS contents wait for adoption. -/
def State.loadsSettled (s : State) : Prop := s.actuator.loadsPending = false

/-! ## Contributions, requests and levels at the end of an event -/

/-- The power that a zone's ladder asks of a slot. -/
def SlotRec.askedBy (r : SlotRec) (z : Fin 8) : Option Nat :=
  r.asks.ladder.bind fun a => if a.zone = z then some a.power else none

/-- The shares of the entries of a zone's ladder before entry `k` that own their slots (R32, R33). -/
def State.sharesBefore (s : State) (z : Fin 8) (k : Nat) : Nat :=
  (((s.zoneAt z).entry.ladder.take k).zipIdx.map fun x =>
    if (s.slotAt x.1.slot).owner = some (z, x.2) then x.1.share else 0).sum

/-- The power a zone's ladder asks of a slot (R32): the entry that owns the slot takes what the shares
before it leave of the demand handed, up to its own share, and asks that part of an OK heater's rated
power. -/
def State.ladderPowerOf (s : State) (z : Fin 8) (i : Fin 32) : Option Nat :=
  match (s.slotAt i).owner, (s.slotAt i).entry with
  | some (y, k), some l =>
    match (s.zoneAt z).entry.ladder[k]? with
    | some x =>
      if y = z ∧ x.slot = i ∧ (s.slotAt i).state = .ok ∧
          (l.kind = .floorHeater ∨ l.kind = .roofHeater) then
        presentPower (ceilDiv
          (l.rated * min ((s.zoneAt z).lastD.toNat - s.sharesBefore z k) x.share) x.share)
      else none
    | none => none
  | _, _ => none

/-- The cooling power asked of a slot (R35). -/
def State.coolingPowerOf (s : State) (i : Fin 32) : Option Nat :=
  match (s.slotAt i).entry with
  | some l =>
    match l.kind, l.place with
    | .compressor, .body x =>
      match (s.sectionAt x).compressor with
      | some r =>
        if (s.sectionAt x).call then
          l.askLevel (some (max 30 (min 100 ((s.sectionAt x).demand / 100))))
        else if r.state = .runMin then l.askLevel (some 30)
        else none
      | none => none
    | _, _ => none
  | none => none

/-- The air level of the largest demand of a list, absent for an empty list (R40, R41). -/
def airLevelOf (demands : List Nat) : Option Nat :=
  demands.max?.map fun m => max 20 (min 100 (20 + m * 80 / 10000))

/-- The fan power asked of a slot (R40). -/
def State.fanPowerOf (s : State) (i : Fin 32) : Option Nat :=
  match (s.slotAt i).entry with
  | some l =>
    match l.kind, l.place with
    | .fan, .body x =>
      match s.fanLevel (.body x) with
      | some v => l.askLevel (some v)
      | none =>
        l.askLevel (airLevelOf (((List.finRange 8).filter fun z =>
          z ≠ 0 ∧ (s.zoneAt z).mode ≠ .off ∧ (s.zoneAt z).entry.part = x).map fun z =>
            (s.zoneAt z).d.natAbs))
    | _, _ => none
  | none => none

/-- The zone part of the power asked of the cab blower (R41). -/
def State.blowerPowerOf (s : State) (i : Fin 32) : Option Nat :=
  match (s.slotAt i).entry with
  | some l =>
    if l.kind = .cabBlower then
      match s.fanLevel .cab with
      | some v => l.askLevel (some v)
      | none =>
        if (s.zoneAt 0).mode = .off then none
        else l.askLevel (airLevelOf [(s.zoneAt 0).d.natAbs])
    else none
  | none => none

/-- The stage of a door's curtain (R86). -/
def State.curtainStageOf (s : State) (d : Fin 8) : Nat :=
  let r := s.doorAt d
  if r.stale = false ∧ (r.recorded = .opening ∨ r.recorded = .opened ∨ r.recorded = .ramp) ∧
      r.longOpen = false ∧ s.standing .curtainOff (.door d) = false ∧
      s.standing .curtainOff .allDoors = false then
    if s.sample.outdoor < r.entry.t1 then 3
    else if s.sample.outdoor < r.entry.t2 then 2
    else if s.sample.outdoor < r.entry.t3 then 1
    else 0
  else 0

/-- The power a door asks of a slot (R87). -/
def State.curtainPowerOf (s : State) (d : Fin 8) (i : Fin 32) : Option Nat :=
  match (s.slotAt i).entry with
  | some l =>
    if (s.doorAt d).entry.zone ≠ none ∧ (s.doorAt d).entry.curtain = some i ∧
        l.kind = .curtain then
      presentPower (ceilDiv (l.rated * s.curtainStageOf d) 3)
    else none
  | none => none

/-- The contributions of a door stand as R86 and R87 give them. -/
def State.curtainFollows (s : State) (d : Fin 8) : Prop :=
  ∀ i, (s.slotAt i).asks.curtain.get d = s.curtainPowerOf d i

/-- The treatment of a panel: RUN_ON goes on with its origin's (R102). -/
def State.treated (s : State) (p : Fin 4) (x : RunOnOrigin) : Prop :=
  ((s.panelAt p).state = .demist ∧ x = .demist) ∨ ((s.panelAt p).state = .defrost ∧ x = .defrost) ∨
    ((s.panelAt p).state = .runOn ∧ (s.panelAt p).origin = some x)

/-- The contributions of a panel stand as R102 and R104 give them: to the cab blower, to the panel's
film, and, where compressor A's lock condition is what it was in `s`, to compressor A. -/
def State.panelFollows (s t : State) (p : Fin 4) : Prop :=
  ∀ i, ∀ l ∈ (t.slotAt i).entry,
    (l.kind = .cabBlower →
      (t.treated p .demist → (t.slotAt i).asks.glazing.get p = some (.level 70)) ∧
      (t.treated p .defrost → (t.slotAt i).asks.glazing.get p = some (.level 100)) ∧
      (¬ t.treated p .demist → ¬ t.treated p .defrost → (t.slotAt i).asks.glazing.get p = none)) ∧
    (l.kind = .film →
      (t.treated p .defrost ∧ (t.panelAt p).entry.film = some i →
        (t.slotAt i).asks.glazing.get p = some (if l.stages = 0 then .level 100 else .stage 1)) ∧
      (¬ (t.treated p .defrost ∧ (t.panelAt p).entry.film = some i) →
        (t.slotAt i).asks.glazing.get p = none)) ∧
    (l.kind = .compressor → l.place = .body .a → t.lockedA = s.lockedA →
      (t.treated p .demist ∧ 200 < t.sample.outdoor ∧ t.lockedA = false →
        (t.slotAt i).asks.glazing.get p = some (.level 30)) ∧
      (¬ (t.treated p .demist ∧ 200 < t.sample.outdoor ∧ t.lockedA = false) →
        (t.slotAt i).asks.glazing.get p = none))

/-- A change of compressor A's lock condition has the contributions of every panel recomputed in its event
(R102, R104). -/
def State.panelsFollow (s t : State) : Prop := t.lockedA ≠ s.lockedA → ∀ p, t.panelFollows t p

/-- A zone counts in the cooling demand of a section (R34). -/
def State.cools (s : State) (x : BodySection) (z : Fin 8) : Prop :=
  (s.zoneAt z).mode ≠ .off ∧ (s.zoneAt z).entry.part = x ∧ (s.zoneAt z).entry.cool = true

/-- A section's C is the largest cooling demand of its zones (R34). -/
def State.demandFollows (t : State) (x : BodySection) : Prop :=
  (∀ z, t.cools x z → -(t.zoneAt z).d ≤ (t.sectionAt x).demand) ∧
  ((t.sectionAt x).demand = 0 ∨
    ∃ z, t.cools x z ∧ ((t.sectionAt x).demand : Int) = -(t.zoneAt z).d)

/-- A section's C and cooling call after a recomputation (R34). -/
def State.sectionFollows (s t : State) (x : BodySection) : Prop :=
  t.demandFollows x ∧
  (t.sectionAt x).call =
    (if t.standing .climateOff .allSaloon = true ∧
        ((t.zoneAt 0).mode = .off ∨ (t.zoneAt 0).entry.part ≠ x) then false
      else if 1500 ≤ (t.sectionAt x).demand then true
      else if (t.sectionAt x).demand < 500 then false
      else (s.sectionAt x).call)

/-- A zone's demand stands in the contributions of its ladder, in the section demands and in the cooling
contributions, and in those of the fans or of the cab blower (R32, R34, R35, R40, R41). -/
def State.demandHanded (t : State) (z : Fin 8) : Prop :=
  (∀ i, (t.slotAt i).askedBy z = t.ladderPowerOf z i) ∧ (∀ x, t.demandFollows x) ∧
  (∀ i, (t.slotAt i).asks.cooling = t.coolingPowerOf i) ∧
  (z ≠ 0 → ∀ i, (t.slotAt i).asks.fan = t.fanPowerOf i) ∧
  (z = 0 → ∀ i, (t.slotAt i).asks.blower = t.blowerPowerOf i)

/-- A zone's demand has been handed off, with the cooling calls (R20, R34). -/
def State.handedOff (s t : State) (z : Fin 8) : Prop :=
  t.demandHanded z ∧ ∀ x, s.sectionFollows t x

/-- Every contribution but the glazing ones stands as the present entries, demands and doors give it
(R51, R87). -/
def State.contributionsFollow (s t : State) : Prop :=
  (∀ z i, (t.slotAt i).askedBy z = t.ladderPowerOf z i) ∧ (∀ x, s.sectionFollows t x) ∧
  (∀ i, (t.slotAt i).asks.cooling = t.coolingPowerOf i) ∧
  (∀ i, (t.slotAt i).asks.fan = t.fanPowerOf i) ∧
  (∀ i, (t.slotAt i).asks.blower = t.blowerPowerOf i) ∧ ∀ d, t.curtainFollows d

/-- A contribution of nonzero power that is present, with its class (R30). -/
def Asks.offered (a : Asks) (l : LoadEntry) (power : Nat) (cls : Fin 4) : Prop :=
  power ≠ 0 ∧
    ((a.manual = some power ∧ cls = 0) ∨
      (∃ p g, a.glazing.get p = some g ∧ l.glazingPower g = power ∧ cls = 0) ∨
      (a.blower = some power ∧ cls = 1) ∨
      (∃ z, a.ladder = some { zone := z, power } ∧ cls = if z = 0 then 1 else 3) ∨
      (∃ d, a.curtain.get d = some power ∧ cls = 2) ∨
      (a.cooling = some power ∧ cls = 3) ∨ (a.fan = some power ∧ cls = 3))

/-- The request of a slot is formed from its contributions: the largest, with the lowest class number
among equal ones; a MANUAL slot's is its rated power at class 0, and a slot that is not OK, is a damper, or
is a compressor under its restart lock, has none (R31). -/
def State.requestFormed (s : State) (i : Fin 32) : Prop :=
  let row := s.rowAt i
  let r := s.slotAt i
  (r.state ≠ .ok ∨ r.entry = none ∨ (∃ l ∈ r.entry, l.kind = .damper ∨ s.slotLocked l = true) →
    row.request = 0 ∧ row.cls = 3) ∧
  ∀ l ∈ r.entry, r.state = .ok → l.kind ≠ .damper → s.slotLocked l = false →
    (r.manual = true → row.request = l.rated ∧ row.cls = 0) ∧
    (r.manual = false →
      (∀ power cls, r.asks.offered l power cls → power ≤ row.request) ∧
      (∀ cls, r.asks.offered l row.request cls → row.cls ≤ cls) ∧
      (r.asks.offered l row.request row.cls ∨ (row.request = 0 ∧ row.cls = 3)))

/-- The level of a slot follows its grant, where the slot is given commands and is no damper (R43). -/
def State.levelGiven (s : State) (i : Fin 32) : Prop :=
  ∀ l ∈ (s.slotAt i).entry, (s.slotAt i).state ≠ .unbound → l.kind ≠ .damper →
    (s.slotAt i).manual = false →
    (s.slotAt i).commanded =
      (if s.actuator.startHold = true ∨ (s.slotAt i).state ≠ .ok then 0
        else if 0 < l.stages then (s.rowAt i).grant * l.stages / l.rated
        else if (s.rowAt i).grant * 100 / l.rated < l.minLevel then 0
        else (s.rowAt i).grant * 100 / l.rated)

/-- Every level follows its grant (R43). -/
def State.levelsGiven (s : State) : Prop := ∀ i, s.levelGiven i

/-- The dampers of the places reached stand at the fresh air that R42 gives them. -/
def State.dampersFollowAt (s : State) (reached : LoadPlace → Prop) : Prop :=
  ∀ i, ∀ l ∈ (s.slotAt i).entry, l.kind = .damper → reached l.place →
    (s.slotAt i).commanded =
      (if (s.slotAt i).state = .faulted ∨ s.actuator.startHold = true ∨
          s.recirculates l.place = true then 0
        else
          let air := match s.zone.activeBand.bind (s.zone.schedule[·]?) with
            | some b => b.freshAir
            | none => 20
          if air < l.minLevel then 0 else air)

/-- Every damper stands at the fresh air that R42 gives it. -/
def State.dampersFollow (s : State) : Prop := s.dampersFollowAt fun _ => True

/-- A command with the slot's level has been placed in the event: its frame carries the slot's sequence
and waits, or is in transmission; the echoed level is absent and the refresh timer restarted (R44). -/
def State.commandPlaced (s : State) (i : Fin 32) : Prop :=
  ∀ l ∈ (s.slotAt i).entry,
    let frame := makeFrame l.commandStream .command (s.slotAt i).sequence
      [byteOf (s.slotAt i).commanded]
    (s.slotAt i).echoed = none ∧ (s.slotAt i).refreshTimer = s.timer (100 * l.refresh) ∧
      (s.path.plantTx = some frame ∨ { slot := i, frame } ∈ s.path.commandSet)

/-- A slot's manual take is over (R50, R159): its contribution is removed, its mismatch count is 0, and no
frame of its guard waits. A command is placed with the level that the pass yields, level 0 where the grant
is 0; a slot that is no compressor and is asked no cooling requests what its own contributions ask. -/
def State.slotReleased (s t : State) (i : Fin 32) : Prop :=
  (t.slotAt i).manual = false ∧ (t.slotAt i).mismatch = 0 ∧ (t.slotAt i).asks.manual = none ∧
  ((s.slotAt i).state ≠ .unbound → t.commandPlaced i ∧ t.levelGiven i) ∧
  ((∀ l ∈ (s.slotAt i).entry, l.kind ≠ .compressor) → (s.slotAt i).asks.cooling = none →
    t.requestFormed i) ∧
  ∀ g ∈ t.path.forwardQueue, g.guardSlot ≠ some i

/-- Every changed level of a slot that is given commands has its command placed (R44). -/
def State.changesCommanded (s t : State) : Prop :=
  ∀ i, (t.slotAt i).state ≠ .unbound → (t.slotAt i).manual = false →
    (t.slotAt i).commanded ≠ (s.slotAt i).commanded → t.commandPlaced i

/-- The loads are at rest, as the end of an event leaves them: no LOADS contents wait, every request is
the one its slot's contributions form (R31, R66), the cooling contributions follow R35, no compressor is in
RUN with nothing asked of it (R37), and no section has two compressor slots (R27). -/
def State.loadsAtRest (s : State) : Prop :=
  s.loadsSettled ∧ (∀ i, ((s.rowAt i).request, (s.rowAt i).cls) = s.formed i) ∧
  (∀ i, (s.slotAt i).asks.cooling = s.coolingPowerOf i) ∧
  (∀ x, ∀ r ∈ (s.sectionAt x).compressor, r.state = .run → s.wanted x = true) ∧
  ∀ x i, ∀ l ∈ (s.slotAt i).entry, l.kind = .compressor → l.place = .body x →
    s.compressorSlot x = some i

/-- Every slot keeps its entry, state and owner, and one that is not MANUAL its flag and its mismatch
count: of the slots' own record fields an event writes those of manual takes that end, and no other (R50). -/
def State.takesEnded (s t : State) : Prop :=
  ∀ i, (t.slotAt i).entry = (s.slotAt i).entry ∧ (t.slotAt i).state = (s.slotAt i).state ∧
    (t.slotAt i).owner = (s.slotAt i).owner ∧
    ((s.slotAt i).manual = false →
      (t.slotAt i).manual = false ∧ (t.slotAt i).mismatch = (s.slotAt i).mismatch)

/-- A request that names slot `i` keeps every slot's entry and owner, every other slot's state, MANUAL flag
and mismatch count, and the cooling demands and calls; a changed level has its command placed (R44, R49,
R50). -/
def State.onlySlot (s t : State) (i : Fin 32) : Prop :=
  (∀ j, (t.slotAt j).entry = (s.slotAt j).entry ∧ (t.slotAt j).owner = (s.slotAt j).owner ∧
    (j ≠ i → (t.slotAt j).state = (s.slotAt j).state ∧
      (t.slotAt j).manual = (s.slotAt j).manual ∧
      (t.slotAt j).mismatch = (s.slotAt j).mismatch)) ∧
  s.callsKept t ∧ s.changesCommanded t

/-- A plant line that is busy, or has nothing to send, stands. -/
def State.plantLineKept (s t : State) : Prop :=
  s.path.plantTx ≠ none ∨ (s.path.commandSet = [] ∧ s.path.forwardQueue = []) →
    Part.same s t .plantLine

/-- What an event that acts on no slot itself leaves of the loads, `touched` being the parts that it writes or
that a session which ends in it hands over. Unless it hands over LOADS contents no slot record but its level
and contributions changes, and no cooling demand or call; and with the loads at rest, unless it adopts the
SUPPLY entry and with it a budget, no pass runs: slots, sections, rows, limited flags and the plant line all
stand (R66, R67). -/
def State.loadsKept (s t : State) (touched : List Part) : Prop :=
  .slots ∉ touched →
    (.loads ∉ touched → s.loadsSettled → s.slotsKept t ∧ s.callsKept t) ∧
    (.supply ∉ touched → s.loadsAtRest →
      (∀ p ∈ [Part.slots, .sections, .rows, .limits], p.same s t) ∧ s.plantLineKept t)

/-- The limited flags follow the grants: of each row, of each zone's heating and cooling, and the raw of
PRIORITY_LIMITED under its validity class V1 (R68 step 3, R73, R74). -/
def State.limitsFollow (s : State) : Prop :=
  (∀ i, (s.rowAt i).limited = decide ((s.rowAt i).grant < (s.rowAt i).request)) ∧
  (∀ z, ((s.zoneAt z).heatLimited = true ↔ ∃ i, (s.slotAt i).owner.map Prod.fst = some z ∧
      (s.rowAt i).request ≠ 0 ∧ (s.rowAt i).limited = true) ∧
    ((s.zoneAt z).coolLimited = true ↔
      (s.zoneAt z).entry.enabled = true ∧ (s.zoneAt z).entry.cool = true ∧
        ∃ i ∈ s.compressorSlot (s.zoneAt z).entry.part,
          (s.rowAt i).request ≠ 0 ∧ (s.rowAt i).limited = true)) ∧
  (s.notice.raw .priorityLimited = true ↔ (s.budget.state = .live ∨ s.budget.state = .sag) ∧
    ∃ i, (s.rowAt i).cls ≤ 1 ∧ (s.rowAt i).request ≠ 0 ∧ (s.rowAt i).limited = true)

/-! ## Banking (R22, R63) -/

/-- The zone records follow the banking flag of the supply unit in an event of `s`, with the hand-off of a
negative D that the end of banking raised to 0. -/
def State.bankingFollows (s t : State) : Prop :=
  let ends := s.budget.banking = true ∧ t.budget.banking = false
  (∀ z, (t.zoneAt z).unlimited = (
    let r := s.zoneAt z
    if t.budget.banking = s.budget.banking then r
    else if t.budget.banking = true then
      if r.entry.enabled = true ∧ 0 < r.entry.bankMargin then
        { r with banking := true, bankRelease := false, bankTimer := none }
      else r
    else if r.banking = true then
      { r with banking := false, bankRelease := true, bankTimer := s.timer 300000
               d := max r.d 0, lastD := if r.d < 0 then 0 else r.lastD }
    else r).unlimited) ∧
  (s.loadsSettled → ends → ∀ z, (s.zoneAt z).banking = true → (s.zoneAt z).d < 0 → t.demandHanded z)

/-! ## Dew point and ice (R94 to R96) -/

/-- The value a panel reads from a channel, for the quantity it wants (R94). -/
def State.sensed (s : State) (c : Option (Fin 48)) (q : Quantity) : Option Int :=
  c.bind fun c =>
    if (s.channelAt c).entry.quantity ≠ some q then none
    else if (s.channelAt c).quality = .fresh ∨ (s.channelAt c).quality = .stale then
      (s.channelAt c).held
    else if (s.channelAt c).quality = .forced then (s.channelAt c).forced
    else none

/-- The depression at 20 °C that the table gives at a humidity (R95 step 1). -/
def depressionIs (dew : Table 11 Nat) (rh depression : Int) : Prop :=
  let d := fun i : Fin 11 => (dew.get i : Int)
  (rh = 10000 → depression = d 10) ∧
  ∀ i j : Fin 11, j.val = i.val + 1 → 1000 * (i.val : Int) ≤ rh → rh < 1000 * (j.val : Int) →
    depression = d i + divTowardZero ((d j - d i) * (rh - 1000 * (i.val : Int))) 1000

/-- A reading of a panel has the ice test and the fog margin of R94 to R96: `tg` is the glass
temperature. -/
def State.readingFollows (s : State) (e : PanelEntry) (x : Reading) : Prop :=
  let ta := (s.zoneAt 0).tm
  let outdoor := s.sample.outdoor
  ∃ tg : Int,
    (∀ v ∈ s.sensed e.glass .glass, tg = v) ∧
    (s.sensed e.glass .glass = none →
      (∀ a ∈ ta, tg = outdoor + divTowardZero ((a - outdoor) * e.k) 256) ∧
      (ta = none → tg = outdoor)) ∧
    (x.ice = true ↔ tg ≤ 0 ∧ outdoor ≤ 0) ∧
    (ta = none ∨ s.sensed e.humidity .humidity = none → x.margin = none) ∧
    ∀ a ∈ ta, ∀ v ∈ s.sensed e.humidity .humidity, ∃ depression : Int,
      depressionIs s.glazing.dew (clamp v 0 10000) depression ∧
      x.margin = some (tg - (a - divTowardZero
        (depression * clamp (256 + divTowardZero (3 * (a - 2000)) 100) 192 320) 256))

/-! ## Panels and zone 0 (R21, R91, R103, R106) -/

/-- Zone 0's record after an event that re-evaluates its two flags: an entry of a panel to DEFROST
(`entered`) sets the floor, which raises the D of a zone that is not OFF to 6000; no other field changes. -/
def State.cabFlagged (s t : State) (entered : Bool) : Prop :=
  let r := s.zoneAt 0
  let raised := entered = true ∧ r.mode ≠ .off ∧ r.d < 6000
  (t.zoneAt 0).unlimited = { r with
    boost := t.glazing.panels.any PanelRec.boosts
    floor := entered || t.glazing.panels.any PanelRec.floors
    d := if raised then 6000 else r.d
    lastD := if raised then 6000 else r.lastD }.unlimited

/-- The hand-off of a D that an entry of a panel to DEFROST (`entered`) raises to 6000; otherwise every
cooling demand and call stands (R20, R21, R34). -/
def State.floorHanded (s t : State) (entered : Bool) : Prop :=
  let r := s.zoneAt 0
  let raised := entered = true ∧ r.mode ≠ .off ∧ r.d < 6000
  (raised → s.handedOff t 0) ∧ (¬ raised → s.callsKept t)

/-- What an evaluation at a moment does with the contents that wait for a panel: with a depression table or
an entry that waits it is the evaluation of the state that holds it, a panel that is disabled is OFF with
no contribution, and a failed check is recorded (R91, R106). -/
def State.panelAdopts (s : State) (p : Fin 4) (at_ : PartTime) : Prop :=
  let old := s.panelAt p
  let evaluated := exec (.panelEvaluation p) s
  let evaluates := fun u : State => evaluated = exec (.panelEvaluation p) u
  (s.glazing.dewPending = true → s.sessionOn SegmentId.dewpoint = false →
    evaluates { s with
      glazing := { s.glazing with
        dew := readDew (s.agent.contents.get SegmentId.dewpoint), dewPending := false } }) ∧
  ∀ (entry : PanelEntry) (n : Nat), old.adoptPending = true →
    s.sessionOn SegmentId.glazing = false →
    readPanel (entryAt (s.agent.contents.get SegmentId.glazing) p.val) = (entry, n) →
    (n ≠ 0 → ∃ t, evaluated = .next t ∧ (s.atExpiry at_).faults t .tableInconsistent p.val) ∧
    (n = 0 → entry.enabled = true → old.entry.enabled = true → old.state ≠ .off →
      evaluates (s.setPanel p { old with entry, adoptPending := false })) ∧
    (n = 0 → entry.enabled = true → old.entry.enabled = false →
      evaluates (s.setPanel p { old with
        entry, adoptPending := false, state := .watch, origin := none, escalateTimer := none
        runOnTimer := none })) ∧
    (entry.enabled = false →
      ∃ t, evaluated = .next t ∧
        t.panelAt p = { old with
          entry, adoptPending := false, state := .off, origin := none, escalateTimer := none
          runOnTimer := none, evalTimer := (s.atExpiry at_).timer 1000 } ∧
        s.cabFlagged t false ∧ (∀ o, o ≠ p → t.panelAt o = s.panelAt o) ∧
        (∀ z, z ≠ 0 → (t.zoneAt z).unlimited = (s.zoneAt z).unlimited) ∧
        (s.loadsSettled → s.slotsKept t ∧ s.callsKept t ∧
          ∀ i, (t.slotAt i).asks.glazing.get p = none) ∧
        AgreeExcept ([.panels, .zones] ++ settledParts) (s.atExpiry at_) t)

/-! ## The effects of overrides (R119 to R124) -/

/-- A panel as a DEFROST_NOW entry leaves it that is added or replaced (`on`), or removed (R101). -/
def State.panelOverridden (s : State) (p : Fin 4) (on : Bool) : PanelRec :=
  let r := s.panelAt p
  if on ∧ r.state ≠ .off ∧ r.state ≠ .defrost then
    { r with state := .defrost, origin := none, escalateTimer := none, runOnTimer := none }
  else if on = false ∧ r.state = .defrost then
    if r.entry.runOn = 0 then
      { r with state := .watch, origin := none, escalateTimer := none, runOnTimer := none }
    else
      { r with state := .runOn, origin := some .defrost, escalateTimer := none
               runOnTimer := s.timer (1000 * r.entry.runOn) }
  else r

/-- What the owner of the place that a key reaches does in the event that adds or replaces its entry
(`on`), or removes it (R121, R122, R124); `s` stands at the part time of the event. A SETPOINT_OFFSET acts
in the zone's next pass, and CAB_HEAT_MAX by its flag alone (R120, R123). -/
def State.overrideActs (s t : State) (on : Bool) : OverrideKind → Target → Prop
  | .fanLevel, .body x => s.loadsSettled → ∀ i, ∀ l ∈ (t.slotAt i).entry, l.kind = .fan →
      l.place = .body x → (t.slotAt i).asks.fan = t.fanPowerOf i
  | .fanLevel, .cab => s.loadsSettled → ∀ i, ∀ l ∈ (t.slotAt i).entry, l.kind = .cabBlower →
      (t.slotAt i).asks.blower = t.blowerPowerOf i
  | .recirc, .body x => s.loadsSettled → t.dampersFollowAt (· = .body x)
  | .recirc, .cab => s.loadsSettled → t.dampersFollowAt (· = .cab)
  | .defrostNow, .panel p =>
    t.panelAt p = s.panelOverridden p on ∧
      (t.panelAt p ≠ s.panelAt p →
        (s.loadsSettled → s.panelFollows t p) ∧
        (on = true → (t.zoneAt 0).floor = true ∧
          ((s.zoneAt 0).mode ≠ .off → (t.zoneAt 0).d = max (s.zoneAt 0).d 6000)))
  | .climateOff, _ => on = true → s.loadsSettled → ∀ x,
      (s.zoneAt 0).mode = .off ∨ (s.zoneAt 0).entry.part ≠ x →
        (t.sectionAt x).call = false ∧
        ∀ r ∈ (s.sectionAt x).compressor, r.state = .runMin ∨ r.state = .run →
          (t.sectionAt x).compressor = some
            { state := .offLocked, lock := .long, minRunTimer := none
              lockTimer := s.timer (1000 * s.budget.entry.longLock) }
  | .curtainOff, .door d => s.loadsSettled → t.curtainFollows d
  | .curtainOff, .allDoors => s.loadsSettled → ∀ d, t.curtainFollows d
  | _, _ => True

/-- The tables adopted give a target of a kind something to act on (R111); no other target is enabled. -/
def State.hasTarget (s : State) : OverrideKind → Target → Prop
  | .setpointOffset, .zone z => (s.zoneAt z).entry.enabled = true
  | .setpointOffset, .allSaloon => ∃ z, z ≠ 0 ∧ (s.zoneAt z).entry.enabled = true
  | .climateOff, .allSaloon => ∃ z, z ≠ 0 ∧ (s.zoneAt z).entry.enabled = true
  | .fanLevel, .body x => ∃ i, ∃ l ∈ (s.slotAt i).entry, l.kind = .fan ∧ l.place = .body x
  | .fanLevel, .cab => ∃ i, ∃ l ∈ (s.slotAt i).entry, l.kind = .cabBlower
  | .recirc, .body x => ∃ i, ∃ l ∈ (s.slotAt i).entry, l.kind = .damper ∧ l.place = .body x
  | .recirc, .cab => ∃ i, ∃ l ∈ (s.slotAt i).entry, l.kind = .damper ∧ l.place = .cab
  | .defrostNow, .panel p => (s.panelAt p).entry.enabled = true
  | .curtainOff, .door d => (s.doorAt d).entry.zone ≠ none
  | .curtainOff, .allDoors => ∃ d, (s.doorAt d).entry.zone ≠ none
  | .cabHeatMax, .cab => (s.zoneAt 0).entry.enabled = true
  | _, _ => False

/-- The targets that R110 lists for a kind. -/
def listedTarget (g : Target) : OverrideKind → Prop
  | .setpointOffset => (∃ z, g = .zone z) ∨ g = .allSaloon
  | .fanLevel => (∃ x, g = .body x) ∨ g = .cab
  | .recirc => (∃ x, g = .body x) ∨ g = .cab
  | .defrostNow => ∃ p, g = .panel p
  | .climateOff => g = .allSaloon
  | .curtainOff => (∃ d, g = .door d) ∨ g = .allDoors
  | .cabHeatMax => g = .cab

/-- The entries of these keys are added or replaced (`on`), or removed, in one event: each owner acts, no
other zone field, panel or slot record changes, and the requests and commands follow (R119). -/
def State.overridden (s t : State) (keys : List (OverrideKind × Target)) (on : Bool) : Prop :=
  let acts := fun k : OverrideKind => keys.any (·.1 == k)
  (∀ x ∈ keys, s.overrideActs t on x.1 x.2) ∧
  (∀ z, (t.zoneAt z).unlimited = { s.zoneAt z with
      climateOff := if z ≠ 0 ∧ acts .climateOff = true then on else (s.zoneAt z).climateOff
      heatMax := if z = 0 ∧ acts .cabHeatMax = true then on else (s.zoneAt z).heatMax
      boost := if z = 0 ∧ acts .defrostNow = true then (t.zoneAt z).boost
        else (s.zoneAt z).boost
      floor := if z = 0 ∧ acts .defrostNow = true then (t.zoneAt z).floor
        else (s.zoneAt z).floor
      d := if z = 0 ∧ on = true ∧ acts .defrostNow = true then (t.zoneAt z).d
        else (s.zoneAt z).d
      lastD := if z = 0 ∧ on = true ∧ acts .defrostNow = true then (t.zoneAt z).lastD
        else (s.zoneAt z).lastD }.unlimited) ∧
  (∀ p, (OverrideKind.defrostNow, Target.panel p) ∉ keys → t.panelAt p = s.panelAt p) ∧
  t.glazing.dew = s.glazing.dew ∧ t.glazing.dewPending = s.glazing.dewPending ∧
  (s.loadsSettled → s.slotsKept t ∧ s.changesCommanded t ∧
    (∀ x, (t.sectionAt x).demand = (s.sectionAt x).demand ∨
      (on = true ∧ acts .defrostNow = true)) ∧
    (on = false ∨ (acts .climateOff = false ∧ acts .defrostNow = false) → s.callsKept t)) ∧
  (s.loadsAtRest → ∀ i, t.requestFormed i)

/-- A request that leaves the list and its revision as they are, acts on no place, and writes its result; a
refusal raises OVERRIDE_REFUSED (R114, R115, R118). -/
def State.overrideStands (s t : State) (result : OverrideResult) : Prop :=
  t.override.entries = s.override.entries ∧ t.override.revision = s.override.revision ∧
  t.override.lastResult = result ∧ s.overridden t [] false ∧
  (result = .refusedInvalid ∨ result = .refusedFull → s.raises t .overrideRefused)

/-! ## The schedule (R7 to R9) -/

/-- The band of a list that covers an outdoor value (R7); no band covers it in an empty list. -/
def covers (list : List Band) (outdoor : Int) : Option Nat → Prop
  | none => list = []
  | some k => k < list.length ∧ (∀ j < k, ∀ b ∈ list[j]?, b.bound ≤ outdoor) ∧
      (k + 1 < list.length → ∀ b ∈ list[k]?, outdoor < b.bound)

/-- The outdoor value lies 100 or more past a bound of the active band (R8). -/
def pastBand (list : List Band) (k : Nat) (outdoor : Int) : Prop :=
  (k + 1 < list.length ∧ ∃ b ∈ list[k]?, b.bound + 100 ≤ outdoor) ∨
    (0 < k ∧ ∃ b ∈ list[k - 1]?, outdoor ≤ b.bound - 100)

/-- What a pass does to the schedule: with nothing to adopt the list stands and the active band is
evaluated by R8; otherwise the list is adopted and the band chosen by R9. -/
def State.scheduleFollows (s t : State) : Prop :=
  let list := t.zone.schedule
  (s.zone.schedulePending = false ∨ s.sessionOn SegmentId.schedule = true →
    list = s.zone.schedule ∧ t.zone.schedulePending = s.zone.schedulePending ∧
    (s.zone.activeBand = none → covers list s.sample.outdoor t.zone.activeBand) ∧
    ∀ k ∈ s.zone.activeBand,
      (s.sample.outdoorUnknown = false → pastBand list k s.sample.outdoor →
        covers list s.sample.outdoor t.zone.activeBand) ∧
      (s.sample.outdoorUnknown = true ∨ ¬ pastBand list k s.sample.outdoor →
        t.zone.activeBand = some k)) ∧
  (s.zone.schedulePending = true → s.sessionOn SegmentId.schedule = false →
    list = (readSchedule (s.agent.contents.get SegmentId.schedule)).1 ∧
    t.zone.schedulePending = false ∧
    (s.sample.outdoorUnknown = false ∨ s.zone.activeBand = none ∨ list = [] →
      covers list s.sample.outdoor t.zone.activeBand) ∧
    (s.sample.outdoorUnknown = true → list ≠ [] → ∀ k ∈ s.zone.activeBand,
      t.zone.activeBand = some (min k (list.length - 1))))

/-- The state as a pass finds it once it has adopted a schedule that waits, by R9, and evaluated the
active band. -/
def State.scheduled (s : State) : State :=
  let list := (readSchedule (s.agent.contents.get SegmentId.schedule)).1
  let x := s.zone
  (if s.zone.schedulePending = true ∧ s.sessionOn SegmentId.schedule = false then
    { s with zone := { x with
        schedule := list
        schedulePending := false
        activeBand := bandAtAdoption list x.activeBand s.sample.outdoor s.sample.outdoorUnknown } }
  else s).evaluateBand

/-- What a pass hands on: the schedule with its band, the dampers where the band moved, a list was
adopted or the start-up hold ended, and the zone's hand-off (R8, R9, R20, R28, R42). -/
def State.passed (s t : State) (z : Fin 8) : Prop :=
  s.scheduleFollows t ∧
  (s.loadsSettled → s.handedOff t z ∧
    (t.zone.activeBand ≠ s.zone.activeBand ∨ s.zone.schedulePending ≠ t.zone.schedulePending ∨
      s.actuator.startHold = true → t.dampersFollow))

/-! ## Adoption -/

/-- The state with a door's entry adopted that moves it from zone `y` to zone `z` at a moment (R89, log
entry 19): the old zone's hold ends as at the end of an opening, its G is recomputed without the door, and
an open door that is not long-open holds the new zone. -/
def State.doorMoved (s : State) (at_ : PartTime) (d y z : Fin 8) (entry : DoorEntry) : State :=
  let r := s.doorAt d
  let holds := r.isOpen && !r.longOpen
  let ends := r.holding && !(List.finRange 8).any fun o =>
    decide (o ≠ d) && (s.doorAt o).entry.zone == some y && (s.doorAt o).holding
  let timer := if r.entry.holdOver = 0 then none else (s.atExpiry at_).timer (1000 * r.entry.holdOver)
  let t := s.setDoor d { r with entry, adoptPending := false, dose := 0, holding := holds }
  let hold := if ends && r.entry.holdOver == 0 then false else (s.zoneAt y).doorHold
  let u := (if ends then t.setHoldOver y timer else t).setZone y
    { s.zoneAt y with g := t.draftTerm y, doorHold := hold }
  if holds then (u.setHoldOver z none).setZone z { s.zoneAt z with doorHold := true } else u

/-- No ZONES contents are adopted in the zone's pass: none wait, or the door hold or an open session
defers them (R24). -/
def State.zoneKeeps (s : State) (z : Fin 8) : Prop :=
  (s.zoneAt z).adoptPending = false ∨ (s.zoneAt z).doorHold = true ∨
    s.sessionOn SegmentId.zones = true

/-- An entry of a zone's newly adopted ladder is disabled: its slot is owned by another zone's ladder, or
named by an earlier entry of the same one (R33). -/
def State.claimRefused (s : State) (z : Fin 8) (ladder : List LadderEntry) (k : Nat) : Prop :=
  ∃ x ∈ ladder[k]?, (∃ j < k, ∃ y ∈ ladder[j]?, y.slot = x.slot) ∨
    ∃ o ∈ (s.slotAt x.slot).owner, o.1 ≠ z

/-- The state with an entry adopted for a zone (R24, R33): the record by what changed, the slots of the
old ladder released, and those of the new one claimed where no other zone's ladder owns them. -/
def State.zoneAdopted (s : State) (z : Fin 8) (entry : ZoneEntry) : State :=
  let r := s.zoneAt z
  let moved := r.entry.members ≠ entry.members ∨ r.entry.part ≠ entry.part
  let fresh := moved ∨ (r.mode = .off ∧ entry.enabled = true)
  let record : ZoneRec :=
    { r with
      entry
      adoptPending := false
      mode := if fresh then .regulate else r.mode
      i := if fresh then 0 else r.i
      preset := if fresh then false else r.preset
      satCount := if moved then 0 else r.satCount }
  (s.setZone z record).mapSlots fun i q =>
    let owned := q.owner.any (·.1 = z)
    { q with
      owner := match q.owner, entry.ladder.findIdx? (·.slot = i) with
        | some (y, j), k => if y ≠ z then some (y, j) else k.map fun k => (z, k)
        | none, k => k.map fun k => (z, k)
      asks := { q.asks with
        ladder := if owned && q.asks.ladder.any (·.zone = z) then none else q.asks.ladder } }

/-- The slots of a ladder are each named once and owned by no other zone (R33). -/
def State.ladderFree (s : State) (z : Fin 8) (ladder : List LadderEntry) : Prop :=
  (ladder.map (·.slot)).Nodup ∧ ∀ x ∈ ladder, ∀ y ∈ (s.slotAt x.slot).owner, y.1 = z

/-- The change of a load entry that begins its slot again (R51). -/
def rebinds (old new : LoadEntry) : Prop :=
  old.kind ≠ new.kind ∨ old.commandStream ≠ new.commandStream ∨ old.rated ≠ new.rated ∨
    old.stages ≠ new.stages ∨ old.place ≠ new.place

/-- What the adoption of LOADS contents does to a slot, by what changed (R51, R159). -/
def State.slotAdopted (s t : State) (i : Fin 32) : Prop :=
  let old := s.slotAt i
  let new := t.slotAt i
  let kept := new.state = old.state ∧ new.manual = old.manual ∧ new.mismatch = old.mismatch
  let cleared := old.manual = true → ∀ f ∈ t.path.forwardQueue, f.guardSlot ≠ some i
  new.owner = old.owner ∧ (new.entry = old.entry → kept) ∧
  (new.entry = none → old.entry ≠ none →
    new.state = .unbound ∧ new.manual = false ∧ new.commanded = 0 ∧ new.echoed = none ∧
      new.mismatch = 0 ∧ new.refreshTimer = none ∧ new.asks = noAsks ∧ cleared ∧
      ∀ c ∈ t.path.commandSet, c.slot ≠ i) ∧
  (∀ l ∈ new.entry, ∀ o ∈ old.entry, ¬ rebinds o l → kept) ∧
  (∀ l ∈ new.entry, (old.entry = none ∨ ∃ o ∈ old.entry, rebinds o l) →
    new.state = .ok ∧ new.manual = false ∧ new.mismatch = 0 ∧ cleared ∧ t.commandPlaced i) ∧
  ∀ l ∈ new.entry, l.kind ≠ .compressor → t.lockedA = s.lockedA →
    (∀ o ∈ old.entry, o.kind = l.kind → new.asks.glazing = old.asks.glazing) ∧
    ((∀ o ∈ old.entry, o.kind ≠ l.kind) → ∀ p, new.asks.glazing.get p = none)

/-- What the adoption of LOADS contents does to a section's compressor record: where the compressor slot is
bound, unbound or replaced it is OFF_LOCKED with the long lock started (R51, log entry 27). -/
def State.compressorAdopted (s t : State) (x : BodySection) : Prop :=
  (t.compressorSlot x ≠ s.compressorSlot x ∨
    ∃ i, t.compressorSlot x = some i ∧
      ∃ o ∈ (s.slotAt i).entry, ∃ l ∈ (t.slotAt i).entry, rebinds o l) →
  (t.sectionAt x).compressor = some
    { state := .offLocked, lock := .long, lockTimer := t.timer (1000 * t.budget.entry.longLock),
      minRunTimer := none }

/-- A budget pass has adopted the LOADS contents (R51, R68): the entries, the slots, the compressors and
the contributions, those of the panels by R102 where the adoption changes compressor A's lock condition (log
entry 35). -/
def State.loadsAdopted (s t : State) : Prop :=
  t.actuator.loadsPending = false ∧
  (∀ i, (t.slotAt i).entry = (readLoads (s.agent.contents.get SegmentId.loads)).1.get i) ∧
  (∀ i, s.slotAdopted t i) ∧ (∀ x, s.compressorAdopted t x) ∧ s.contributionsFollow t ∧
  t.dampersFollow ∧
  ((∀ x, ∀ r ∈ (s.sectionAt x).compressor, r.state = .run → s.wanted x = true) → s.panelsFollow t)

/-- The outdoor value is that of the sources that count, as R139 gives it, and a value has existed from the
first event on in which one counts. -/
def State.outdoorFollows (s t : State) : Prop :=
  let values := t.outdoorSources.filterMap fun c => (t.channelAt c).value
  t.sample.outdoorUnknown = decide (values = []) ∧
  t.sample.outdoorExisted = (s.sample.outdoorExisted || decide (values ≠ [])) ∧
  t.sample.outdoor = (match values with
    | [] => if s.sample.outdoorExisted then s.sample.outdoor else t.budget.entry.outdoorFallback
    | [a] => a
    | [a, b] => divTowardZero (a + b) 2
    | a :: b :: c :: _ => max (min a b) (min (max a b) c))

/-- The outdoor value, OUTDOOR_UNKNOWN and whether a value has existed stand. -/
def State.outdoorKept (s t : State) : Prop :=
  { t.sample with channels := s.sample.channels } = s.sample

/-- Every forced channel is ABSENT, every other one stands, and the outdoor value follows where a source was
forced (R138 to R140, R186). -/
def State.channelsReleased (s t : State) : Prop :=
  (∀ c, t.channelAt c = (if (s.channelAt c).quality = .forced then
    { s.channelAt c with
      quality := .absent, held := none, forced := none, slewing := false, plausibleCount := 0
      staleTimer := none } else s.channelAt c)) ∧
  ((∃ c ∈ s.outdoorSources, (s.channelAt c).quality = .forced) → s.outdoorFollows t) ∧
  ((∀ c ∈ s.outdoorSources, (s.channelAt c).quality ≠ .forced) → s.outdoorKept t)

/-- The parts that the end of a session hands to the owner of its segment (R183). -/
def handedParts (seg : SegmentId) : List Part :=
  match seg.val with
  | 0 => [.streams]
  | 1 => [.channels]
  | 2 => [.zones]
  | 3 => [.schedule]
  | 4 => [.loads]
  | 5 => [.doors]
  | 6 => [.panels]
  | 7 => [.panels]
  | 8 => [.supply, .channels]
  | 9 => [.notices]
  | _ => [.defaults]

/-- What the owner of a segment does with the contents a session leaves: adopted in the event (R55,
R141, R150, R151, R172), or pending until its own next adoption (R9, R24, R51, R89, R91, R106). -/
def State.handedOver (s t : State) (seg : SegmentId) : Prop :=
  let contents := t.agent.contents.get seg
  (seg = SegmentId.streams →
    t.classifier.table = (readStreams contents).1.map fun entry =>
      match s.classifier.table.find? fun r =>
          r.entry.side = entry.side ∧ r.entry.stream = entry.stream ∧
            r.entry.disposition = entry.disposition ∧ r.entry.role = entry.role with
      | some r => { entry, lastSequence := r.lastSequence,
                    freshness := if entry.freshness = 0 then none else r.freshness }
      | none => { entry, lastSequence := none, freshness := none }) ∧
  (seg = SegmentId.channels →
    (∀ c : Fin 48, t.channelAt c =
      (if (s.channelAt c).entry = (readChannel (entryAt contents c.val)).1 then s.channelAt c
        else { entry := (readChannel (entryAt contents c.val)).1, quality := .absent, held := none,
               forced := none, slewing := false, plausibleCount := 0, staleTimer := none })) ∧
    s.outdoorFollows t) ∧
  (seg = SegmentId.zones →
    ∀ z, (t.zoneAt z).unlimited = { s.zoneAt z with adoptPending := true }.unlimited) ∧
  (seg = SegmentId.schedule →
    t.zone.schedulePending = true ∧ t.zone.schedule = s.zone.schedule ∧
      t.zone.activeBand = s.zone.activeBand) ∧
  (seg = SegmentId.loads → s.loadsAtRest →
    t.actuator.loadsPending = true ∧ t.actuator.slots = s.actuator.slots) ∧
  (seg = SegmentId.doors → t.door.holdOver = s.door.holdOver ∧
    ∀ d, t.doorAt d = { s.doorAt d with adoptPending := true }) ∧
  (seg = SegmentId.glazing → t.glazing.dew = s.glazing.dew ∧
    t.glazing.dewPending = s.glazing.dewPending ∧
    ∀ p, t.panelAt p = { s.panelAt p with adoptPending := true }) ∧
  (seg = SegmentId.dewpoint → t.glazing = { s.glazing with dewPending := true }) ∧
  (seg = SegmentId.supply →
    t.budget.entry = (readSupply (entryAt contents 0)).1 ∧
    t.budget.batteryBudget = t.budget.entry.battery ∧
    t.budget.lineBudget = t.budget.computedLine ∧ t.budget.state = s.budget.state ∧
    t.sample.channels = s.sample.channels ∧
    (s.sample.outdoorExisted = true → t.sample = s.sample) ∧
    (s.sample.outdoorExisted = false → s.outdoorFollows t)) ∧
  (seg = SegmentId.notice →
    t.notice.entry = readNotice (entryAt contents 0) ∧
    ∀ d, (t.notice.dest d).raised = (t.notice.shown d != 0)) ∧
  (seg = SegmentId.port → t.classifier.port = (readPort (entryAt contents 0)).1)

/-- The end of a load session (R183): the session is CLOSED, and with a completed entry the segment is
marked modified and handed over. `x` is the session as it ends, and `contents` the segments then. -/
def State.sessionEnds (s t : State) (x : Session) (contents : Contents) (service : Option Service) :
    Prop :=
  t.agent = { s.agent with
    session := none
    contents
    service
    modified := if x.completed = 0 then s.agent.modified
      else s.agent.modified ||| BitVec.twoPow 11 x.segment.val } ∧
  (x.completed ≠ 0 → s.handedOver t x.segment)

/-! ## Frames and requests -/

/-- A frame is to be forwarded, under a guard slot or not, and these events are handed on with it: by a
PASS or a TAKE_PASS entry that accepts it, by a GUARD entry whose slot is MANUAL in service mode for a
COMMAND, or by the default of a stream without an entry (R149, R151, R152, R156). -/
def State.forwards (s : State) (port : Port) (f : Frame) (guardSlot : Option (Fin 32))
    (handed : List Handed) : Prop :=
  (s.classifier.find port f.stream = none ∧ s.classifier.passes port = true ∧ guardSlot = none ∧
    handed = []) ∨
  ∃ x, s.classifier.find port f.stream = some x ∧ x.lastSequence ≠ some f.sequence ∧
    ((x.entry.disposition = .pass ∧ guardSlot = none ∧ handed = []) ∨
      (x.entry.disposition = .takePass ∧ guardSlot = none ∧
        handed = (x.entry.role.frameEvent f).toList.map fun c => { port := some port, event := c }) ∨
      (x.entry.disposition = .guarded ∧ port = .vehicle ∧ f.kind = .command ∧
        s.agent.service ≠ none ∧ (s.slotAt x.entry.guardSlot).manual = true ∧
        guardSlot = some x.entry.guardSlot ∧ handed = []))

/-- A frame that goes no further is in no queue: a vehicle line and a notice unit whose level raws follow
stand, and so does a plant line that is busy or has nothing to send (R152, R153, R156). -/
def State.notQueued (s t : State) : Prop :=
  (s.levelsFollow → Part.same s t .vehicleLine ∧ Part.same s t .notices) ∧ s.plantLineKept t

/-- The stream table after the entry of a frame's stream accepts it: its sequence is recorded, and its
freshness timer restarted where it has one (R153, R154). -/
def State.acceptedTable (s : State) (port : Port) (f : Frame) : List StreamRec :=
  s.classifier.table.map fun y =>
    if y.entry.side = port ∧ y.entry.stream = f.stream then
      { y with
        lastSequence := some f.sequence
        freshness := if y.entry.timed then s.timer (100 * y.entry.freshness) else y.freshness }
    else y

/-- A frame of the vehicle port is a request to this controller's management agent, and the controller
takes requests (R148, R176, R190). -/
def State.takesRequest (s : State) (f : Frame) (rest : List Frame) : Prop :=
  s.running = true ∧ s.path.vehicleRx = f :: rest ∧ f.kind = .manage ∧
    f.stream = manageStream s.path.node ∧ s.agent.restartPending = false

/-- The agent's service mode after a request: the inactivity timer is restarted (R176, R185). -/
def State.serviceTouched (s : State) : Option Service :=
  s.agent.service.map fun x => { x with timer := s.timer 1800000 }

/-- The agent after a request that ends an open session as broken, with the inactivity timer restarted;
without a session nothing ends (R176, R183). -/
def State.agentBroken (s : State) : Agent :=
  { s.agent with
    session := none
    service := s.serviceTouched
    modified := match s.agent.session with
      | some x => if x.completed = 0 then s.agent.modified
        else s.agent.modified ||| BitVec.twoPow 11 x.segment.val
      | none => s.agent.modified }

/-- The parts that the end of the open session hands over. -/
def State.brokenParts (s : State) : List Part :=
  match s.agent.session with
  | some x => if x.completed = 0 then [] else handedParts x.segment
  | none => []

/-- An open session that has completed an entry is one of these segments. -/
def State.sessionIn (s : State) (segments : List SegmentId) : Prop :=
  ∀ x ∈ s.agent.session, x.completed = 0 ∨ x.segment ∈ segments

/-- The segments whose hand-over only makes their contents pending (R24, R89, R91, R106). -/
def pendingSegments : List SegmentId :=
  [SegmentId.zones, SegmentId.schedule, SegmentId.doors, SegmentId.glazing, SegmentId.dewpoint]

/-- The segments whose hand-over neither reads nor writes what a request to another owner does. -/
def apartSegments : List SegmentId := pendingSegments ++ [SegmentId.streams, SegmentId.port]

/-- The flags of a byte, flag k of the list in bit k (R191). -/
def bitsOf (flags : List Bool) : Nat :=
  (flags.zipIdx.map fun x => if x.1 then 2 ^ x.2 else 0).sum

/-- The bytes after the page number in the reply to STATUS (R194). -/
def State.statusBytes (s : State) (page : Nat) : List Byte :=
  let channel := fun c : Fin 48 =>
    (s.channelAt c).quality.code.toNat + if (s.channelAt c).slewing then 8 else 0
  let slot := fun i : Fin 32 =>
    (s.slotAt i).state.code.toNat + if (s.slotAt i).manual then 4 else 0
  let channels := fun k : Nat => (List.range 8).map fun j =>
    byteOf (16 * channel (Fin.ofNat 48 (16 * k + 2 * j)) + channel (Fin.ofNat 48 (16 * k + 2 * j + 1)))
  let slots := fun k : Nat => (List.range 8).map fun j =>
    byteOf (16 * slot (Fin.ofNat 32 (16 * k + 2 * j)) + slot (Fin.ofNat 32 (16 * k + 2 * j + 1)))
  match page with
  | 0 => [s.budget.state.code, byteOf (s.budget.lineBudget / 256), byteOf s.budget.lineBudget,
      byteOf s.budget.batteryBudget,
      byteOf (bitsOf [s.budget.banking, decide (s.agent.service ≠ none),
        s.agent.service.any Service.allowClears, decide (s.agent.storeOp ≠ none),
        decide (s.agent.session ≠ none)])] ++
      (match s.agent.session with
        | some x => [byteOf x.segment.val, byteOf x.cursor, byteOf x.expected]
        | none => [0, 0, 0]) ++
      [byteOf s.agent.modified.toNat, byteOf (s.agent.modified.toNat / 256), s.agent.cause.code]
  | 1 => flagBytes24 s.notice.statuses ++ flagBytes24 s.notice.raws ++
      [byteOf (bitsOf [s.notice.cab.raised, s.notice.depot.raised,
        decide (s.notice.record ≠ none)])]
  | 2 => (List.finRange 8).map fun z =>
      match (s.zoneAt z).mode with
      | .off => 0
      | .regulate => 1
      | .fallback => 2
  | 3 => ((List.finRange 4).map fun p =>
      match (s.panelAt p).state with
      | .off => 0
      | .watch => 1
      | .demist => 2
      | .defrost => 3
      | .runOn => 4) ++ bytes16 (BitVec.ofInt 16 s.sample.outdoor) ++
      [if s.sample.outdoorUnknown then 1 else 0]
  | 4 => channels 0
  | 5 => channels 1
  | 6 => channels 2
  | 7 => slots 0
  | 8 => slots 1
  | _ => []

/-- CLASSIFY_FRAME takes the request at the head of the vehicle queue: the frame leaves, the other parts
but the agent's, the lines', the loads' and the listed ones stand, the loads are kept as `State.loadsKept`
says unless the request acts on the slots itself, and the rest is `P`. -/
def State.handles (s : State) (rest : List Frame) (touched : List Part) (P : State → Prop) : Prop :=
  ∃ t, exec (.classifyFrame .vehicle) s = .next t ∧ t.path.vehicleRx = rest ∧
    t.path.plantRx = s.path.plantRx ∧
    AgreeExcept ([.received, .agent] ++ touched ++ settledParts) s t ∧ s.loadsKept t touched ∧ P t

/-- The reply of a request is on its way where the queue admits it (R157, R176). -/
def State.replied (s t : State) (f : Frame) (payload : List Byte) : Prop :=
  s.path.vehicleQueue.length < 24 →
    ownFrame (makeFrame (replyStream s.path.node) .reply f.sequence payload) ∈ t.path.outgoing

/-- A request that leaves the agent as it is but for the inactivity timer, with its reply. -/
def State.onlyReplied (s t : State) (f : Frame) (payload : List Byte) : Prop :=
  t.agent = { s.agent with service := s.serviceTouched } ∧ s.replied t f payload

/-- A request that ends the open session as broken, and changes the agent in no other way, with its
reply. -/
def State.brokenReplied (s t : State) (f : Frame) (payload : List Byte) : Prop :=
  t.agent = s.agentBroken ∧ s.replied t f payload

/-- The NOTICE frame of a destination that shows a notice unit, in an event of a state (R167, R195). -/
def State.noticeFrame (s : State) (d : Destination) (n : NoticeUnit) (count : Byte) : VehicleFrame :=
  ownFrame (makeFrame (noticeStream d s.path.node) .notice count
    (flagBytes24 (n.shown d) ++ flagBytes24 n.raws ++ [s.budget.state.code] ++ bytes32 s.partTime))

/-- A destination has sent its NOTICE frame and is RAISED (R167, R195). -/
def State.noticeSent (s t : State) (d : Destination) : Prop :=
  t.notice.dest d = { raised := true, count := (s.notice.dest d).count + 1 } ∧
    s.noticeFrame d t.notice ((s.notice.dest d).count + 1) ∈ t.path.outgoing

/-! ## After a reset -/

/-- The notice unit after a reset: raws and statuses 0 but for the levels that hold and FAULT_RECORDED,
and a destination RAISED with its first frame exactly where an enabled status is set (R166, R167). -/
def State.noticesReset (t : State) : Prop :=
  t.notice.entry = readNotice (entryAt (t.agent.contents.get SegmentId.notice) 0) ∧
  (∀ x : Source, x ∈ levelSources → t.notice.raw x = (t.valid x && t.condition x)) ∧
  (∀ x : Source, x ∉ levelSources → x ≠ .faultRecorded → t.notice.raw x = false) ∧
  (t.notice.raw .faultRecorded = true → t.notice.record ≠ none) ∧
  (∀ x : Source, t.notice.status x = (t.notice.raw x && t.notice.entry.stores x)) ∧
  (∀ d, t.notice.dest d =
    { raised := t.notice.shown d != 0, count := if t.notice.shown d = 0 then 0 else 1 }) ∧
  t.path.outgoing =
    if t.running then ([.cab, .depot].filter fun d => (t.notice.dest d).raised).map fun d =>
      t.noticeFrame d t.notice 1
    else []

/-- The ladder entry that owns a slot once the zones have adopted in ascending order: the first of the first
zone that names it (R33), be the zone enabled or disabled (log entry 25). -/
def State.firstClaim (t : State) (i : Fin 32) : Option (Fin 8 × Nat) :=
  (List.finRange 8).findSome? fun z =>
    ((t.zoneAt z).entry.ladder.findIdx? (·.slot = i)).map fun k => (z, k)

/-- Every owner has adopted the contents of its segment, nothing waits for adoption, and what follows from
the adopted entries stands at its reset value (R5, R7, R9, R33, R34, R36, R188). SUPPLY and NOTICE are
stated beside the records of their units. The reading of the entries rests on log entries 8, 9 and 18 too,
and the owners of the slots on log entry 25. -/
def State.resetAdopted (t : State) : Prop :=
  let contents := t.agent.contents.get
  t.classifier.table = ((readStreams (contents SegmentId.streams)).1.map fun entry =>
    { entry, lastSequence := none, freshness := none }) ∧
  t.classifier.port = (readPort (entryAt (contents SegmentId.port) 0)).1 ∧
  t.classifier.handed = [] ∧
  (∀ c : Fin 48, (t.channelAt c).entry =
    (readChannel (entryAt (contents SegmentId.channels) c.val)).1) ∧
  (∀ z : Fin 8, (t.zoneAt z).entry = (readZone (entryAt (contents SegmentId.zones) z.val)).1 ∧
    (t.zoneAt z).adoptPending = false) ∧
  t.zone.schedule = (readSchedule (contents SegmentId.schedule)).1 ∧
  t.zone.schedulePending = false ∧ t.zone.activeBand = none ∧
  (∀ i, (t.slotAt i).entry = (readLoads (contents SegmentId.loads)).1.get i ∧
    (t.slotAt i).owner = t.firstClaim i) ∧
  t.actuator.loadsPending = false ∧
  (∀ x, (t.sectionAt x).demand = 0 ∧ (t.sectionAt x).call = false ∧
    ((t.sectionAt x).compressor ≠ none ↔
      ∃ i, ∃ l ∈ (t.slotAt i).entry, l.kind = .compressor ∧ l.place = .body x)) ∧
  (∀ d : Fin 8, (t.doorAt d).entry = (readDoor (entryAt (contents SegmentId.doors) d.val)).1 ∧
    (t.doorAt d).adoptPending = false) ∧
  (∀ p : Fin 4, (t.panelAt p).entry = (readPanel (entryAt (contents SegmentId.glazing) p.val)).1 ∧
    (t.panelAt p).adoptPending = false) ∧
  t.glazing.dew = readDew (contents SegmentId.dewpoint) ∧ t.glazing.dewPending = false

/-- Contents whose adoption at a reset records no fault: every entry passes its owner's check, and no slot is
named by two ladder entries (R33, R174). That the ladders of disabled zones count among them, that the bounds
of an unused channel are not checked, and that the last band's bound is, are log entries 25, 8 and 9. -/
def cleanContents (contents : Contents) : Prop :=
  let entry := fun (seg : SegmentId) (k : Nat) => entryAt (contents.get seg) k
  (readStreams (contents.get SegmentId.streams)).2 = [] ∧
  (∀ c : Fin 48, (readChannel (entry SegmentId.channels c.val)).2 = 0) ∧
  (∀ z : Fin 8, (readZone (entry SegmentId.zones z.val)).2 = 0) ∧
  (((List.finRange 8).flatMap fun z =>
    (readZone (entry SegmentId.zones z.val)).1.ladder).map (·.slot)).Nodup ∧
  (readSchedule (contents.get SegmentId.schedule)).2 = none ∧
  (readLoads (contents.get SegmentId.loads)).2 = [] ∧
  (∀ d : Fin 8, (readDoor (entry SegmentId.doors d.val)).2 = 0) ∧
  (∀ p : Fin 4, (readPanel (entry SegmentId.glazing p.val)).2 = 0) ∧
  (readSupply (entry SegmentId.supply 0)).2 = 0 ∧ (readPort (entry SegmentId.port 0)).2 = 0

/-- The fault record after a reset that found it empty, or emptied it: empty with clean contents, and holding
a fault of the adoption otherwise (R174, R188). -/
def State.recordReset (t : State) : Prop :=
  (t.notice.record = none ↔ cleanContents t.agent.contents) ∧
  ∀ r ∈ t.notice.record, r.code = .tableInconsistent ∧ r.time = 0 ∧ r.supply = .start

/-- The commands of a reset: level 0 with sequence 1 for every slot in use, in ascending order; the first
is in transmission (R28, R147, R161). -/
def State.resetCommanded (t : State) : Prop :=
  (∀ i, (t.slotAt i).sequence = (if (t.slotAt i).entry.isSome then 1 else 0) ∧
    (t.slotAt i).refreshTimer = (t.slotAt i).entry.bind fun l => t.timer (100 * l.refresh)) ∧
  let commands := allSlots.filterMap fun i => (t.slotAt i).entry.map fun l =>
    ({ slot := i, frame := makeFrame l.commandStream .command 1 [0] } : WaitingCommand)
  (t.running = true → (t.path.plantTx = commands.head?.map (·.frame)) ∧
    t.path.commandSet = commands.tail) ∧
  (t.running = false → t.path.plantTx = none ∧ t.path.commandSet = [])

/-! ## Safe runs -/

/-- A run is safe when no step of it stops. -/
def Safe (s : State) : Prop := ∃ t, step s = .next t

/-! ## Invariants -/

/-- The bounds of the queues and of the run count (R146, R157, R159 to R161): at most one waiting
command for a slot. -/
def FramePath.bounded (p : FramePath) : Prop :=
  p.vehicleRx.length ≤ 16 ∧ p.plantRx.length ≤ 16 ∧ p.vehicleQueue.length ≤ 24 ∧
    p.forwardQueue.length ≤ 16 ∧ (p.commandSet.map (·.slot)).Nodup ∧ p.runCount ≤ 4

/-- The override list holds at most 8 entries, no two with equal kind and target (R108). -/
def OverrideUnit.lawful (u : OverrideUnit) : Prop :=
  u.entries.length ≤ 8 ∧ (u.entries.map fun x => (x.kind, x.target)).Nodup

/-- The bounds of a zone record (R4, R18, R19). -/
def ZoneRec.bounded (r : ZoneRec) : Prop :=
  -10000 ≤ r.d ∧ r.d ≤ 10000 ∧ -2560000 ≤ r.i ∧ r.i ≤ 2560000 ∧ r.satCount ≤ 1200 ∧
    (r.mode = .fallback ∨ r.bankRelease = true ∨ r.entry.cool = false → 0 ≤ r.d)

/-- The stream table is in strictly ascending order of side and stream (R150). -/
def Classifier.ordered (c : Classifier) : Prop := (c.table.map (·.entry.key)).Pairwise (· < ·)

/-- The settle timer runs in RETURN only and the gap timer in GAP only (R53, R57, R58). -/
def BudgetUnit.lawful (b : BudgetUnit) : Prop :=
  (b.settleTimer.isSome → b.state = .returning) ∧ (b.gapTimer.isSome → b.state = .gap)

/-- Every grant is at most its request (R65, R66). -/
def BudgetUnit.granted (b : BudgetUnit) : Prop := ∀ i, (b.rows.get i).grant ≤ (b.rows.get i).request

/-- An idle transmitter has nothing waiting (R157, R161). -/
def FramePath.busyOrEmpty (p : FramePath) : Prop :=
  (p.vehicleTx = none → p.vehicleQueue = []) ∧
    (p.plantTx = none → p.commandSet = [] ∧ p.forwardQueue = [])

/-- The state at rest between events. -/
def State.atRest (s : State) : Prop := s.levelsFollow ∧ s.path.busyOrEmpty

/-- The grants of the slots of a pool, summed. -/
def State.granted (s : State) (pool : Pool) : Nat :=
  (allSlots.map fun i =>
    if (s.slotAt i).entry.any (·.pool = pool) then (s.rowAt i).grant else 0).sum

/-- No pool is granted more than its budget (R69). -/
def State.withinBudgets (s : State) : Prop := ∀ pool, s.granted pool ≤ s.poolBudget pool

end Sys2Proof.Machine
end

