-- ==== Sys2Proof/Certificates/Slice0/Obligations.lean ====
section
/-!
DEFINITION. The statements for the provers, in the order of the commands. A statement about a command
has as its conclusion that the command answers a next state, with what that state holds and a frame.
The frame of a command that is no expiry compares with `s.taken c`, the state in which the event that
was handed on has been taken; the frame of an expiry compares with `s.atExpiry t` (log entries 1, 2).
-/

open Sys2Proof Sys2Proof.Machine

/-! ## Arithmetic and frames -/

/-- R1: the four rounding words, the two rounding modes and clamp. -/
def Obligations.RoundingWords : Prop :=
  (∀ n d : Int, 0 < d →
    ((divTowardZero n d * d).natAbs ≤ n.natAbs ∧ n.natAbs < (divTowardZero n d * d).natAbs + d.natAbs ∧
      0 ≤ divTowardZero n d * n) ∧
    (2 * (n - divNearest n d * d).natAbs ≤ d.natAbs ∧
      (2 * (n - divNearest n d * d).natAbs = d.natAbs → n.natAbs < (divNearest n d * d).natAbs)) ∧
    (divFloor n d * d ≤ n ∧ n < (divFloor n d + 1) * d) ∧
    ((divCeil n d - 1) * d < n ∧ n ≤ divCeil n d * d)) ∧
  (∀ n d : Int, Rounding.chop.div n d = divTowardZero n d ∧
    Rounding.nearest.div n d = divNearest n d) ∧
  (∀ x lo hi : Int, lo ≤ hi →
    (x < lo → clamp x lo hi = lo) ∧ (lo ≤ x → x ≤ hi → clamp x lo hi = x) ∧
      (hi < x → clamp x lo hi = hi))

/-- A frame with a right check and at most 14 payload bytes is received as it was sent (R143, R144,
R192); that the ignored header bits are kept is the model's reading (log entry 15). -/
def Obligations.FrameRoundTrip : Prop :=
  ∀ f : Frame, f.payload.length ≤ 14 → f.check = checkOf (headerBytes f ++ f.payload) →
    parseFrame (frameBytes f) = some f

/-! ## Steps -/

/-- A step takes the command at the front of the queue and answers what `exec` answers for it with the
queue's rest. -/
def Obligations.StepTakesTheFront : Prop :=
  ∀ (c : Instr) (rest : List Instr) (s : State), s.pending = c :: rest →
    step s = exec c { s with pending := rest }

/-- With no command waiting, a running controller takes the oldest handed event, else a due expiry,
else lets a millisecond pass; one that does not run stands still (the model's choice, log entries 1
to 3). -/
def Obligations.StepOnAnEmptyQueue : Prop :=
  ∀ s : State, s.pending = [] →
    (s.running = false → step s = .next s) ∧
    (∀ h rest, s.running = true → s.classifier.handed = h :: rest → step s = exec h.event s) ∧
    (∀ x, s.running = true → s.classifier.handed = [] → s.timers.find? (fun x => s.due x.1) = some x →
      step s = exec x.2 s) ∧
    (s.running = true → s.classifier.handed = [] → (∀ x ∈ s.timers, s.due x.1 = false) →
      step s = .next { s with partTime := s.partTime + 1 })

/-- Every command answers a next state in every state, every step is safe, and a command leaves the
commands that wait as they are (the model's choice of a queue, log entry 2). -/
def Obligations.EveryCommandAnswers : Prop :=
  (∀ (c : Instr) (s : State), ∃ t, exec c s = .next t ∧ t.pending = s.pending) ∧ ∀ s, Safe s

/-- While the supply is down or the reset input is held, no command but the four of the pins and the
completion of a running store operation changes anything (R188, log entry 3). -/
def Obligations.InertWithoutSupply : Prop :=
  ∀ (c : Instr) (s : State), s.running = false → c ≠ .storeCompletion →
    (∀ straps, c ≠ .powerOn straps) → (∀ straps, c ≠ .lineReset straps) → c ≠ .supplyDown →
    c ≠ .resetInputHeld → exec c s = .next s

/-! ## Resets -/

/-- SUPPLY_DOWN and RESET_INPUT_HELD make the controller inert (R188). That what is in transmission is
cut off at once, with everything else as it was, and that LINE_RESET without supply is no reset, is the
model's reading (log entry 3). -/
def Obligations.PinsGoDown : Prop :=
  ∀ s : State,
    (∃ t, exec .supplyDown s = .next t ∧ t.running = false ∧
      t.pins = { s.pins with supplyUp := false } ∧
      t.path = { s.path with vehicleTx := none, plantTx := none } ∧
      AgreeExcept [.pins, .vehicleLine, .plantLine] s t) ∧
    (∃ t, exec .resetInputHeld s = .next t ∧ t.running = false ∧
      t.pins = { s.pins with resetHeld := true } ∧
      t.path = { s.path with vehicleTx := none, plantTx := none } ∧
      AgreeExcept [.pins, .vehicleLine, .plantLine] s t) ∧
    (s.pins.supplyUp = false → ∀ straps,
      exec (.lineReset straps) s = .next { s with pins := { s.pins with resetHeld := false, straps } })

/-- Every reset has each owner adopt the contents of its segment, with the ladders claimed in ascending zone
order, and leaves the zone, channel, door, panel and override records, the slots, the sections, the
compressors, the supply record and the frame path at their reset values, with a command of level 0 for every
slot in use (R4, R5, R28, R33, R36, R53, R65, R77, R92, R109, R128, R139, R147, R188). The model's readings
in it: the ladder of a disabled zone claims its slots too, so `State.firstClaim` counts it (log entry 25);
the bounds of an unused channel are adopted as they stand (log entry 8), the schedule is cut by its last bound
too (log entry 9), and stream numbers of LOADS and STREAMS are limited or cut to 12 bits (log entry 18); those
commands carry the sequence 1 (log entry 26); and none is sent while the reset input is held (R188, log entry
3). -/
def Obligations.ResetSetsTheRecords : Prop :=
  ∀ s : State, AfterReset s fun _ t =>
    t.partTime = 0 ∧ t.resetAdopted ∧
    t.budget.entry = (readSupply (entryAt (t.agent.contents.get SegmentId.supply) 0)).1 ∧
      t.budget.state = .start ∧ t.budget.heldVoltage = 0 ∧ t.budget.heldAllowance = 0 ∧
      t.budget.heldSurplus = 0 ∧ t.budget.banking = false ∧ t.budget.ramp = none ∧
      t.budget.settleTimer = none ∧ t.budget.gapTimer = none ∧ t.budget.lineBudget = 0 ∧
      t.budget.batteryBudget = t.budget.entry.battery ∧
      t.budget.periodTimer = some (t.partTime + 250) ∧
      (∀ i, t.rowAt i = { request := 0, cls := 3, grant := 0, limited := false }) ∧
    (∀ z, (t.zoneAt z).mode = (if (t.zoneAt z).entry.enabled then .regulate else .off) ∧
      (t.zoneAt z).tm = none ∧ (t.zoneAt z).ts = 2000 ∧ (t.zoneAt z).e = none ∧
      (t.zoneAt z).p = none ∧ (t.zoneAt z).f = 0 ∧ (t.zoneAt z).g = 0 ∧ (t.zoneAt z).i = 0 ∧
      (t.zoneAt z).d = 0 ∧ (t.zoneAt z).lastD = 0 ∧ (t.zoneAt z).preset = false ∧
      (t.zoneAt z).doorHold = false ∧ (t.zoneAt z).heatLimited = false ∧
      (t.zoneAt z).coolLimited = false ∧ (t.zoneAt z).banking = false ∧
      (t.zoneAt z).bankRelease = false ∧ (t.zoneAt z).bankTimer = none ∧
      (t.zoneAt z).boost = false ∧ (t.zoneAt z).floor = false ∧ (t.zoneAt z).heatMax = false ∧
      (t.zoneAt z).climateOff = false ∧ (t.zoneAt z).satCount = 0 ∧
      (t.zoneAt z).passTimer = t.timer (3000 + 100 * z.val)) ∧
    (∀ c, (t.channelAt c).quality = .absent ∧ (t.channelAt c).held = none ∧
      (t.channelAt c).forced = none ∧ (t.channelAt c).slewing = false ∧
      (t.channelAt c).plausibleCount = 0 ∧ (t.channelAt c).staleTimer = none) ∧
    t.sample.outdoor = t.budget.entry.outdoorFallback ∧ t.sample.outdoorUnknown = true ∧
    t.sample.outdoorExisted = false ∧
    (∀ i, (t.slotAt i).state = (if (t.slotAt i).entry.isSome then .ok else .unbound) ∧
      (t.slotAt i).manual = false ∧ (t.slotAt i).commanded = 0 ∧ (t.slotAt i).echoed = none ∧
      (t.slotAt i).mismatch = 0 ∧ (t.slotAt i).asks = noAsks) ∧
    t.actuator.startHold = true ∧
    (∀ x r, (t.sectionAt x).compressor = some r →
      r.state = .offLocked ∧ r.lock = .long ∧ r.minRunTimer = none ∧
        r.lockTimer = t.timer (1000 * t.budget.entry.longLock)) ∧
    (∀ d, (t.doorAt d).recorded = .closed ∧ (t.doorAt d).stale = false ∧
      (t.doorAt d).openTime = 0 ∧ (t.doorAt d).rampSeen = false ∧ (t.doorAt d).longOpen = false ∧
      (t.doorAt d).dose = 0 ∧ (t.doorAt d).holding = false ∧
      (t.doorAt d).stepTimer = t.timer 500) ∧
    (∀ z, t.holdOverAt z = none) ∧
    (∀ p, (t.panelAt p).state = (if (t.panelAt p).entry.enabled then .watch else .off) ∧
      (t.panelAt p).origin = none ∧ (t.panelAt p).escalateTimer = none ∧
      (t.panelAt p).runOnTimer = none ∧ (t.panelAt p).evalTimer = t.timer (3500 + 100 * p.val)) ∧
    t.override = { entries := [], revision := 0, lastResult := .none, statusSequence := 0,
                   statusTimer := t.timer 5000 } ∧
    t.path.vehicleRx = [] ∧ t.path.plantRx = [] ∧ t.path.forwardQueue = [] ∧
    t.path.plantSilent = false ∧ t.path.plantSilence = t.timer 1000 ∧ t.resetCommanded ∧
    ∀ x ∈ t.classifier.table, x.lastSequence = none ∧ x.freshness = none

/-- What each kind of reset restores or keeps, the cause it records, the agent's other values, and the
notice unit with the NOTICE frames of the reset event (R166, R167, R174, R177, R188, R189). A POWER_ON or
LINE reset empties the fault record, and a fault that the adoption finds is in it then; FAULT_RECORDED is
raised exactly where the event captures a fault. The model's readings in it: the ladders of disabled zones
claim their slots, so a slot that one of them shares is a fault of the adoption (`cleanContents`, log entry
25); the bounds of an unused channel are not checked (log entry 8), and the bound of the last band is (log
entry 9); the bytes of the default contents (log entry 4); a store never written counts as a failed check (log
entry 33), and a store operation cut off earlier still does (log entry 20); and a reset while the reset input
is held sends no frame (log entry 3). -/
def Obligations.ResetKinds : Prop :=
  ∀ s : State, AfterReset s fun cause t =>
    t.agent.cause = cause ∧ t.agent.session = none ∧ t.agent.storeOp = none ∧
    t.agent.service = none ∧ t.agent.restartPending = false ∧ t.noticesReset ∧
    (cause = .restart →
      t.agent.contents = s.agent.contents ∧ t.agent.modified = s.agent.modified ∧
        t.agent.stored = s.agent.stored ∧
        (s.notice.record = none → t.recordReset ∧
          t.notice.raw .faultRecorded = decide (t.notice.record ≠ none)) ∧
        ∀ r, s.notice.record = some r → t.notice.raw .faultRecorded = false ∧
          (cleanContents t.agent.contents → t.notice.record = some r) ∧
          (¬ cleanContents t.agent.contents → t.notice.record = some { r with further := true })) ∧
    (cause ≠ .restart →
      (∀ contents, s.agent.stored = .whole contents → s.agent.storeOp = none →
        t.agent.contents = contents ∧ t.agent.modified = 0 ∧ t.recordReset ∧
          t.notice.raw .faultRecorded = decide (t.notice.record ≠ none)) ∧
      ((∀ contents, s.agent.stored ≠ .whole contents) ∨ s.agent.storeOp ≠ none →
        t.agent.contents = defaultContents ∧ t.agent.modified = BitVec.allOnes 11 ∧
          t.notice.record =
            some { code := .storeCheck, index := 0, time := 0, supply := .start, further := false } ∧
          t.notice.raw .faultRecorded = true))

/-! ## The frame path -/

/-- FRAME_RECEPTION. A malformed frame is discarded and FRAME_ERROR raised (R144). A well-formed frame
joins the port's queue while fewer than 16 frames wait, and is discarded with PORT_OVERRUN otherwise;
on the plant port it ends PLANT_SILENT and restarts the silence timer either way (R145, R146). -/
def Obligations.FramesAreReceived : Prop :=
  ∀ (port : Port) (bytes : List Byte) (s : State), s.running = true →
    (parseFrame bytes = none →
      ∃ t, exec (.frameReception port bytes) s = .next t ∧ s.raises t .frameError ∧
        AgreeExcept quietParts s t) ∧
    ∀ f, parseFrame bytes = some f →
      ∃ t, exec (.frameReception port bytes) s = .next t ∧
        ((s.path.received port).length < 16 →
          t.path.received port = s.path.received port ++ [f]) ∧
        (16 ≤ (s.path.received port).length →
          t.path.received port = s.path.received port ∧ s.raises t .portOverrun) ∧
        (∀ other, other ≠ port → t.path.received other = s.path.received other) ∧
        (port = .plant → t.path.plantSilent = false ∧ t.path.plantSilence = s.timer 1000) ∧
        (port = .vehicle → t.path.plantSilent = s.path.plantSilent ∧
          t.path.plantSilence = s.path.plantSilence) ∧
        AgreeExcept ([.received, .silence] ++ quietParts) s t

/-- CLASSIFY_FRAME of a frame that a TAKE entry accepts: the sequence is recorded, the freshness timer
restarted where the entry has one, and the frame handed on; other entries keep their records (R149,
R152 to R154). -/
def Obligations.FrameIsTaken : Prop :=
  ∀ (port : Port) (f : Frame) (rest : List Frame) (x : StreamRec) (c : Instr) (s : State),
    s.running = true → s.path.received port = f :: rest → s.ordinary port f →
    s.classifier.find port f.stream = some x → x.lastSequence ≠ some f.sequence →
    x.entry.disposition = .take → x.entry.role.frameEvent f = some c →
    ∃ t, exec (.classifyFrame port) s = .next t ∧ t.path.received port = rest ∧
      (∀ other, other ≠ port → t.path.received other = s.path.received other) ∧
      t.classifier.handed = s.classifier.handed ++ [{ port := some port, event := c }] ∧
      t.classifier.table = s.classifier.table.map (fun y =>
        if y.entry.side = port ∧ y.entry.stream = f.stream then
          { y with
            lastSequence := some f.sequence
            freshness := if y.entry.timed then s.timer (100 * y.entry.freshness) else y.freshness }
        else y) ∧
      AgreeExcept ([.received, .streams, .handed] ++ quietParts) s t

/-- CLASSIFY_FRAME of a frame that is to be forwarded: by a PASS or a TAKE_PASS entry that accepts it, by
a GUARD entry for a COMMAND to a MANUAL slot in service mode, or by the default of a stream without an
entry. It joins the opposite port's queue while fewer than 16 frames wait, with the guard's mark where it
is guarded, and is discarded with PORT_OVERRUN otherwise, when none but the controller's own frames join
the vehicle queue; a TAKE_PASS entry hands it on as well (R149, R151 to R154, R156, R157, R159). -/
def Obligations.FrameIsForwarded : Prop :=
  ∀ (port : Port) (f : Frame) (rest : List Frame) (guardSlot : Option (Fin 32))
    (handed : List Handed) (s : State), s.running = true → s.path.received port = f :: rest →
    s.ordinary port f → s.forwards port f guardSlot handed →
    ∃ t, exec (.classifyFrame port) s = .next t ∧ t.path.received port = rest ∧
      (∀ other, other ≠ port → t.path.received other = s.path.received other) ∧
      t.classifier.handed = s.classifier.handed ++ handed ∧
      t.classifier.table = s.acceptedTable port f ∧
      (port = .vehicle → s.path.forwardQueue.length < 16 →
        (s.path.plantTx ≠ none → t.path.plantTx = s.path.plantTx ∧
          t.path.forwardQueue = s.path.forwardQueue ++ [{ frame := f, guardSlot }]) ∧
        (s.path.plantTx = none →
          t.path.plantTx = some f ∨ { frame := f, guardSlot } ∈ t.path.forwardQueue)) ∧
      (port = .vehicle → 16 ≤ s.path.forwardQueue.length → s.raises t .portOverrun ∧
        (s.path.plantTx ≠ none → t.path.forwardQueue = s.path.forwardQueue)) ∧
      (port = .plant → s.path.vehicleQueue.length < 16 →
        ({ frame := f, restartReply := false } : VehicleFrame) ∈ t.path.outgoing ∧
        (s.path.vehicleTx ≠ none → t.path.vehicleTx = s.path.vehicleTx ∧ ∃ more,
          t.path.vehicleQueue =
            s.path.vehicleQueue ++ { frame := f, restartReply := false } :: more ∧
          ∀ g ∈ more, isOwnStream s.path.node g.frame.stream = true)) ∧
      (port = .plant → 16 ≤ s.path.vehicleQueue.length → s.raises t .portOverrun ∧
        (∃ more, t.path.outgoing = s.path.outgoing ++ more ∧
          ∀ g ∈ more, isOwnStream s.path.node g.frame.stream = true) ∧
        (s.path.vehicleTx ≠ none → t.path.vehicleTx = s.path.vehicleTx)) ∧
      AgreeExcept ([.received, .streams, .handed] ++ quietParts) s t

/-- CLASSIFY_FRAME of a frame that goes no further: one that repeats its entry's last accepted sequence
or has no entry under a default DROP, which changes no entry (R151 to R153); one that a DROP entry
accepts, a GUARD entry that is closed, or a TAKE entry whose role takes no event of it, which records its
sequence (R149, R153, R156); and one on the plant port that uses a stream of the controller's own (R148).
It joins neither the forward queue nor the vehicle queue, and begins no transmission. With an empty queue
there is no event (R146). -/
def Obligations.FrameIsDiscarded : Prop :=
  ∀ (port : Port) (s : State), s.running = true →
    (s.path.received port = [] → exec (.classifyFrame port) s = .next s) ∧
    ∀ f rest, s.path.received port = f :: rest →
      (port = .plant → isOwnStream s.path.node f.stream = true →
        exec (.classifyFrame port) s = .next { s with path := s.path.setReceived port rest }) ∧
      (s.ordinary port f →
        (∃ x, s.classifier.find port f.stream = some x ∧ x.lastSequence = some f.sequence) ∨
          (s.classifier.find port f.stream = none ∧ s.classifier.passes port = false) →
        ∃ t, exec (.classifyFrame port) s = .next t ∧ t.path.received port = rest ∧
          (∀ other, other ≠ port → t.path.received other = s.path.received other) ∧
          s.notQueued t ∧ AgreeExcept ([.received] ++ quietParts) s t) ∧
      ∀ x, s.ordinary port f → s.classifier.find port f.stream = some x →
        x.lastSequence ≠ some f.sequence →
        x.entry.disposition = .drop ∨
          (x.entry.disposition = .take ∧ x.entry.role.frameEvent f = none) ∨
          (x.entry.disposition = .guarded ∧ ¬ (f.kind = .command ∧ s.agent.service ≠ none ∧
            (s.slotAt x.entry.guardSlot).manual = true)) →
        ∃ t, exec (.classifyFrame port) s = .next t ∧ t.path.received port = rest ∧
          (∀ other, other ≠ port → t.path.received other = s.path.received other) ∧
          t.classifier.table = s.acceptedTable port f ∧ s.notQueued t ∧
          AgreeExcept ([.received, .streams] ++ quietParts) s t

/-- PLANT_SILENCE_EXPIRY makes PLANT_SILENT true and leaves the timer stopped (R145). FRESHNESS_EXPIRY
leaves the timer of its entry stopped and delivers the expiry to the block of the entry's role (R154).
-/
def Obligations.SilenceTimersExpire : Prop :=
  ∀ (at_ : PartTime) (s : State), s.running = true →
    (s.path.plantSilence = some at_ →
      ∃ t, exec .plantSilenceExpiry s = .next t ∧ t.path.plantSilent = true ∧
        t.path.plantSilence = none ∧ t.notice.raw .plantSilent = true ∧
        AgreeExcept ([.silence] ++ quietParts) (s.atExpiry at_) t) ∧
    ∀ (side : Port) (stream : StreamId) (x : StreamRec), s.classifier.find side stream = some x →
      x.freshness = some at_ →
      ∃ t, exec (.freshnessExpiry side stream) s = .next t ∧
        t.classifier.table = s.classifier.table.map (fun y =>
          if y.entry.side = side ∧ y.entry.stream = stream then { y with freshness := none }
          else y) ∧
        (∀ c, x.entry.role = .channel c → t.classifier.handed =
          s.classifier.handed ++ [{ port := none, event := .channelFreshnessExpiry c }]) ∧
        (∀ d, x.entry.role = .door d → t.classifier.handed =
          s.classifier.handed ++ [{ port := none, event := .doorStale d }]) ∧
        (x.entry.role = .supply → t.classifier.handed =
          s.classifier.handed ++ [{ port := none, event := .supplyFreshnessExpiry }]) ∧
        AgreeExcept [.streams, .handed] (s.atExpiry at_) t

/-- VEHICLE_TX_COMPLETION and PLANT_TX_COMPLETION: the next frame begins, on the plant port by the
table of R161 (R157, R161). -/
def Obligations.NextFrameBegins : Prop :=
  ∀ s : State, s.running = true →
    (∀ f, s.path.vehicleTx = some f → f.restartReply = false →
      ∃ t, exec .vehicleTxCompletion s = .next t ∧
        (s.path.vehicleQueue = [] → t.path.vehicleTx = none ∧ t.path.vehicleQueue = []) ∧
        (∀ g rest, s.path.vehicleQueue = g :: rest →
          t.path.vehicleTx = some g ∧ t.path.vehicleQueue = rest) ∧
        AgreeExcept [.vehicleLine] s t) ∧
    (∀ f, s.path.plantTx = some f →
      ∃ t, exec .plantTxCompletion s = .next t ∧
        (s.path.commandSet = [] → s.path.forwardQueue = [] →
          t.path.plantTx = none ∧ t.path.runCount = s.path.runCount ∧ t.path.commandSet = [] ∧
            t.path.forwardQueue = []) ∧
        (∀ g rest, s.path.forwardQueue = g :: rest →
          s.path.runCount = 4 ∨ s.path.commandSet = [] →
          t.path.plantTx = some g.frame ∧ t.path.forwardQueue = rest ∧ t.path.runCount = 0 ∧
            t.path.commandSet = s.path.commandSet) ∧
        (∀ c rest, s.path.commandSet = c :: rest →
          s.path.runCount ≠ 4 ∨ s.path.forwardQueue = [] →
          t.path.plantTx = some c.frame ∧ t.path.commandSet = rest ∧
            t.path.runCount = min (s.path.runCount + 1) 4 ∧
            t.path.forwardQueue = s.path.forwardQueue) ∧
        AgreeExcept [.plantLine] s t)

/-! ## Channels -/

/-- A sample of a used channel that is not FORCED or IMPLAUSIBLE leaves it FRESH when its scaled value
lies within the plausible bounds, and IMPLAUSIBLE otherwise: the test is on the scaled value, before
any slew clamp (R130). -/
def Obligations.PlausibilityOfASample : Prop :=
  ∀ (c : Fin 48) (f : Frame) (s : State) (x : Int), s.running = true →
    (s.channelAt c).entry.quantity ≠ none → (s.channelAt c).quality ≠ .forced →
    (s.channelAt c).quality ≠ .implausible → f.kind = .sample → 2 ≤ f.payload.length →
    x = divTowardZero (s16At f.payload 0 * (s.channelAt c).entry.gain) 1024 +
      (s.channelAt c).entry.offset →
    ∃ t, exec (.sampleFrame c f) s = .next t ∧
      ((s.channelAt c).entry.low ≤ x ∧ x ≤ (s.channelAt c).entry.high →
        (t.channelAt c).quality = .fresh) ∧
      (¬ ((s.channelAt c).entry.low ≤ x ∧ x ≤ (s.channelAt c).entry.high) →
        (t.channelAt c).quality = .implausible)

/-- SAMPLE_FRAME with a plausible sample: the channel by its quality, the slew clamp of R132 in FRESH
and STALE, and the count of R133 in IMPLAUSIBLE (R129 to R133). The outdoor value follows the sample of a
source that is not FORCED, and stands otherwise (R139, R140). -/
def Obligations.PlausibleSampleIsApplied : Prop :=
  ∀ (c : Fin 48) (f : Frame) (s : State) (x : Int), s.running = true →
    (s.channelAt c).entry.quantity ≠ none → f.kind = .sample → 2 ≤ f.payload.length →
    x = divTowardZero (s16At f.payload 0 * (s.channelAt c).entry.gain) 1024 +
      (s.channelAt c).entry.offset →
    (s.channelAt c).entry.low ≤ x → x ≤ (s.channelAt c).entry.high →
    ∃ t, exec (.sampleFrame c f) s = .next t ∧
      ((s.channelAt c).quality = .absent ∨ (s.channelAt c).quality = .lost ∨
          ((s.channelAt c).quality = .implausible ∧ 2 ≤ (s.channelAt c).plausibleCount) →
        t.channelAt c = { s.channelAt c with
          quality := .fresh, held := some x, slewing := false, plausibleCount := 0,
          staleTimer := none }) ∧
      (∀ held, (s.channelAt c).quality = .fresh ∨ (s.channelAt c).quality = .stale →
        (s.channelAt c).held = some held →
        t.channelAt c = { s.channelAt c with
          quality := .fresh
          held := some
            (if (s.channelAt c).entry.maxStep = 0 ∨
                (x - held).natAbs ≤ (s.channelAt c).entry.maxStep then x
              else if held < x then held + (s.channelAt c).entry.maxStep
              else held - (s.channelAt c).entry.maxStep)
          slewing := decide (0 < (s.channelAt c).entry.maxStep ∧
            (s.channelAt c).entry.maxStep < (x - held).natAbs)
          plausibleCount := 0
          staleTimer := none }) ∧
      ((s.channelAt c).quality = .implausible → (s.channelAt c).plausibleCount < 2 →
        t.channelAt c =
          { s.channelAt c with plausibleCount := (s.channelAt c).plausibleCount + 1 }) ∧
      ((s.channelAt c).quality = .forced → t.channelAt c = s.channelAt c) ∧
      (∀ o, o ≠ c → t.channelAt o = s.channelAt o) ∧
      ((s.channelAt c).quality ≠ .forced → c ∈ s.outdoorSources → s.outdoorFollows t) ∧
      ((s.channelAt c).quality = .forced ∨ c ∉ s.outdoorSources → s.outdoorKept t) ∧
      AgreeExcept ([.channels] ++ quietParts) (s.taken (.sampleFrame c f)) t

/-- SAMPLE_FRAME with an implausible sample: the channel enters IMPLAUSIBLE with its notice and fault,
keeping its held value; in IMPLAUSIBLE the count falls to 0 and nothing is recorded (R131, R136). The outdoor
value follows the sample of a source that is not FORCED, and stands otherwise (R139, R140). -/
def Obligations.ImplausibleSampleIsRejected : Prop :=
  ∀ (c : Fin 48) (f : Frame) (s : State) (x : Int), s.running = true →
    (s.channelAt c).entry.quantity ≠ none → f.kind = .sample → 2 ≤ f.payload.length →
    x = divTowardZero (s16At f.payload 0 * (s.channelAt c).entry.gain) 1024 +
      (s.channelAt c).entry.offset →
    ¬ ((s.channelAt c).entry.low ≤ x ∧ x ≤ (s.channelAt c).entry.high) →
    ∃ t, exec (.sampleFrame c f) s = .next t ∧
      ((s.channelAt c).quality ≠ .implausible → (s.channelAt c).quality ≠ .forced →
        t.channelAt c = { s.channelAt c with
          quality := .implausible, slewing := false, plausibleCount := 0, staleTimer := none } ∧
        s.raises t .channelImplausible ∧ s.faults t .channelImplausible c.val) ∧
      ((s.channelAt c).quality = .implausible →
        t.channelAt c = { s.channelAt c with plausibleCount := 0 } ∧
          t.notice.record = s.notice.record) ∧
      ((s.channelAt c).quality = .forced → t.channelAt c = s.channelAt c) ∧
      (∀ o, o ≠ c → t.channelAt o = s.channelAt o) ∧
      ((s.channelAt c).quality ≠ .forced → c ∈ s.outdoorSources → s.outdoorFollows t) ∧
      ((s.channelAt c).quality = .forced ∨ c ∉ s.outdoorSources → s.outdoorKept t) ∧
      AgreeExcept ([.channels] ++ quietParts) (s.taken (.sampleFrame c f)) t

/-- Frames that a block ignores change nothing but the list of handed events: samples of an unused
channel, of another kind or shorter than two bytes (R129), supply frames of another kind, with an
undefined pole contact or too short (R52, R193), door frames of another kind or for an unused door
(R77, R78), and echoes of another stream, of another kind or for an UNBOUND slot (R46). A door frame
with an undefined state leaves the door as it is and records DOOR_STATE_INVALID with its number (R78,
R174). -/
def Obligations.IgnoredFramesChangeNoRecord : Prop :=
  ∀ (f : Frame) (s : State), s.running = true →
    (∀ c, (s.channelAt c).entry.quantity = none ∨ f.kind ≠ .sample ∨ f.payload.length < 2 →
      exec (.sampleFrame c f) s = .next (s.taken (.sampleFrame c f))) ∧
    (f.kind ≠ .state ∨ f.payload.length < 7 ∨ 1 < u8At f.payload 2 →
      exec (.supplyFrame f) s = .next (s.taken (.supplyFrame f))) ∧
    (∀ d, (s.doorAt d).entry.zone = none ∨ f.kind ≠ .state →
      exec (.doorFrame d f) s = .next (s.taken (.doorFrame d f))) ∧
    (∀ d, (s.doorAt d).entry.zone ≠ none → f.kind = .state → doorStateOf f.payload = none →
      ∃ t, exec (.doorFrame d f) s = .next t ∧ s.faults t .doorStateInvalid d.val ∧
        (s.notice.record = none → t.notice.record = some
          { code := .doorStateInvalid, index := d.val, time := s.partTime,
            supply := s.budget.state, further := false }) ∧
        AgreeExcept quietParts (s.taken (.doorFrame d f)) t) ∧
    (∀ i, (s.slotAt i).state = .unbound ∨ f.kind ≠ .state ∨
        (∀ l, (s.slotAt i).entry = some l → l.echoStream ≠ some f.stream) →
      exec (.echoFrame i f) s = .next (s.taken (.echoFrame i f)))

/-- CHANNEL_FRESHNESS_EXPIRY: a FRESH channel becomes STALE with its timer, or LOST where the grace is
0; in IMPLAUSIBLE the count falls to 0; the other qualities keep their records. STALE_TIMER_EXPIRY: the
channel enters LOST with its held value kept. Entry to LOST raises CHANNEL_LOST (R134 to R136). The outdoor
value follows the move of a source, and stands otherwise (R139, R140). -/
def Obligations.SilentChannels : Prop :=
  ∀ (c : Fin 48) (s : State), s.running = true →
    ((s.channelAt c).entry.quantity ≠ none →
      ∃ t, exec (.channelFreshnessExpiry c) s = .next t ∧
        ((s.channelAt c).quality = .fresh → 0 < (s.channelAt c).entry.grace →
          t.channelAt c = { s.channelAt c with
            quality := .stale, staleTimer := s.timer (1000 * (s.channelAt c).entry.grace) }) ∧
        ((s.channelAt c).quality = .fresh → (s.channelAt c).entry.grace = 0 →
          t.channelAt c =
            { s.channelAt c with quality := .lost, slewing := false, staleTimer := none } ∧
          s.raises t .channelLost) ∧
        ((s.channelAt c).quality = .implausible →
          t.channelAt c = { s.channelAt c with plausibleCount := 0 }) ∧
        ((s.channelAt c).quality ≠ .fresh → (s.channelAt c).quality ≠ .implausible →
          t.channelAt c = s.channelAt c) ∧
        (∀ o, o ≠ c → t.channelAt o = s.channelAt o) ∧
        ((s.channelAt c).quality = .fresh → c ∈ s.outdoorSources → s.outdoorFollows t) ∧
        ((s.channelAt c).quality ≠ .fresh ∨ c ∉ s.outdoorSources → s.outdoorKept t) ∧
        AgreeExcept ([.channels] ++ quietParts) (s.taken (.channelFreshnessExpiry c)) t) ∧
    ∀ at_, (s.channelAt c).staleTimer = some at_ →
      ∃ t, exec (.staleTimerExpiry c) s = .next t ∧
        t.channelAt c =
          { s.channelAt c with quality := .lost, slewing := false, staleTimer := none } ∧
        s.raises t .channelLost ∧ (∀ o, o ≠ c → t.channelAt o = s.channelAt o) ∧
        (c ∈ s.outdoorSources → s.outdoorFollows t) ∧
        (c ∉ s.outdoorSources → s.outdoorKept t) ∧
        AgreeExcept ([.channels] ++ quietParts) (s.atExpiry at_) t

/-- After a sample of an outdoor source that is not ignored, the outdoor value is that of the sources
that count: the median of three, the mean of two, the value of one, or with none the value held since
one existed, and the fallback before; and one has existed from the first event on in which a source counts
(R139, R140). -/
def Obligations.OutdoorValueFollowsItsSources : Prop :=
  ∀ (c : Fin 48) (f : Frame) (s : State), s.running = true → c ∈ s.outdoorSources →
    (s.channelAt c).quality ≠ .forced → f.kind = .sample → 2 ≤ f.payload.length →
    ∃ t, exec (.sampleFrame c f) s = .next t ∧ t.outdoorSources = s.outdoorSources ∧
      (∀ x y z, t.outdoorSources.filterMap (fun o => (t.channelAt o).value) = [x, y, z] →
        t.sample.outdoor ∈ [x, y, z] ∧
        2 ≤ ([x, y, z].filter (t.sample.outdoor ≤ ·)).length ∧
        2 ≤ ([x, y, z].filter (· ≤ t.sample.outdoor)).length ∧ t.sample.outdoorUnknown = false) ∧
      (∀ x y, t.outdoorSources.filterMap (fun o => (t.channelAt o).value) = [x, y] →
        t.sample.outdoor = divTowardZero (x + y) 2 ∧ t.sample.outdoorUnknown = false) ∧
      (∀ x, t.outdoorSources.filterMap (fun o => (t.channelAt o).value) = [x] →
        t.sample.outdoor = x ∧ t.sample.outdoorUnknown = false) ∧
      (t.outdoorSources.filterMap (fun o => (t.channelAt o).value) = [] →
        t.sample.outdoorUnknown = true ∧
        t.sample.outdoor = (if s.sample.outdoorExisted then s.sample.outdoor
          else s.budget.entry.outdoorFallback)) ∧
      t.sample.outdoorExisted = (s.sample.outdoorExisted ||
        decide (t.outdoorSources.filterMap (fun o => (t.channelAt o).value) ≠ [])) ∧
      t.notice.raw .outdoorUnknown = t.sample.outdoorUnknown

/-! ## Doors -/

/-- DOOR_FRAME with an open state, for a used door. One that was closed begins an opening: it holds its
zone, and the zone's hold-over timer stops (R78, R79, R84). One that was open stays open; a RAMP sets ramp
seen and tests the long-open limit at once, where the door ceases to hold without hold-over and the draft
term follows (R78, R82 to R84). The curtain follows either way (R86, R87). -/
def Obligations.DoorOpens : Prop :=
  ∀ (d z : Fin 8) (f : Frame) (v : DoorState) (s : State) (long : Prop), s.running = true →
    (s.doorAt d).entry.zone = some z → f.kind = .state → doorStateOf f.payload = some v →
    v ≠ .closed →
    (long ↔ v = .ramp ∧ (s.doorAt d).longOpen = false ∧
      1000 * (s.doorAt d).entry.rampLimit ≤ (s.doorAt d).openTime) →
    ∃ t, exec (.doorFrame d f) s = .next t ∧
      ((s.doorAt d).isOpen = false →
        t.doorAt d = { s.doorAt d with
          recorded := v, stale := false, rampSeen := decide (v = .ramp), holding := true } ∧
        (t.zoneAt z).doorHold = true ∧ t.holdOverAt z = none ∧
        (t.zoneAt z).g = (s.zoneAt z).g) ∧
      ((s.doorAt d).isOpen = true → ¬ long →
        t.doorAt d = { s.doorAt d with
          recorded := v, rampSeen := (s.doorAt d).rampSeen || decide (v = .ramp) } ∧
        (t.zoneAt z).doorHold = (s.zoneAt z).doorHold ∧ t.holdOverAt z = s.holdOverAt z ∧
        (t.zoneAt z).g = (s.zoneAt z).g) ∧
      ((s.doorAt d).isOpen = true → long →
        t.doorAt d = { s.doorAt d with
          recorded := v, rampSeen := true, longOpen := true, holding := false } ∧
        (s.heldByAnother d z ∨ s.holdOverAt z ≠ none →
          (t.zoneAt z).doorHold = (s.zoneAt z).doorHold) ∧
        (¬ s.heldByAnother d z → s.holdOverAt z = none → (t.zoneAt z).doorHold = false) ∧
        t.holdOverAt z = s.holdOverAt z ∧ (t.zoneAt z).g = t.draftTerm z) ∧
      s.otherDoors t d ∧ s.doorsOnly t z ∧
      (s.loadsSettled → s.slotsKept t ∧ s.callsKept t ∧ t.curtainFollows d) ∧
      AgreeExcept ([.doors, .zones] ++ settledParts) (s.taken (.doorFrame d f)) t

/-- DOOR_FRAME with CLOSED. At an open door the opening ends, its time and flags are cleared, a door that
held ceases to hold with hold-over, the dose is kept, the draft term follows a cleared long-open flag, and
the door's curtain contribution ends. At a door that is closed, or counts so by its stale flag, the state is
recorded and the flag cleared, and nothing further changes (R78, R79, R83 to R87). -/
def Obligations.DoorCloses : Prop :=
  ∀ (d z : Fin 8) (f : Frame) (s : State), s.running = true →
    (s.doorAt d).entry.zone = some z → f.kind = .state → doorStateOf f.payload = some .closed →
    ∃ t, exec (.doorFrame d f) s = .next t ∧
      ((s.doorAt d).isOpen = true →
        t.doorAt d = { s.doorAt d with
          recorded := .closed, stale := false, openTime := 0, rampSeen := false, longOpen := false,
          holding := false } ∧
        s.holdEnds t d z ∧
        (t.zoneAt z).g =
          (if (s.doorAt d).longOpen then (t.draftTerm z : Int) else (s.zoneAt z).g)) ∧
      ((s.doorAt d).isOpen = false →
        t.doorAt d = { s.doorAt d with recorded := .closed, stale := false } ∧
        t.holdOverAt z = s.holdOverAt z ∧ (t.zoneAt z).doorHold = (s.zoneAt z).doorHold ∧
        (t.zoneAt z).g = (s.zoneAt z).g) ∧
      s.otherDoors t d ∧ s.doorsOnly t z ∧
      (s.loadsSettled → s.slotsKept t ∧ s.callsKept t ∧ t.curtainFollows d) ∧
      AgreeExcept ([.doors, .zones] ++ settledParts) (s.taken (.doorFrame d f)) t

/-- DOOR_STALE of a used door: the stale flag is set with the recorded state kept, an opening ends with its
curtain contribution, and DOOR_STATE_LOST is raised (R79, R86 to R88). -/
def Obligations.DoorGoesStale : Prop :=
  ∀ (d z : Fin 8) (s : State), s.running = true → (s.doorAt d).entry.zone = some z →
    ∃ t, exec (.doorStale d) s = .next t ∧ s.raises t .doorStateLost ∧
      ((s.doorAt d).isOpen = true →
        t.doorAt d = { s.doorAt d with
          stale := true, openTime := 0, rampSeen := false, longOpen := false, holding := false } ∧
        s.holdEnds t d z ∧
        (t.zoneAt z).g = (if (s.doorAt d).longOpen then (t.draftTerm z : Int) else (s.zoneAt z).g)) ∧
      ((s.doorAt d).isOpen = false →
        t.doorAt d = { s.doorAt d with stale := true } ∧ t.holdOverAt z = s.holdOverAt z ∧
          (t.zoneAt z).doorHold = (s.zoneAt z).doorHold ∧ (t.zoneAt z).g = (s.zoneAt z).g) ∧
      s.otherDoors t d ∧ s.doorsOnly t z ∧
      (s.loadsSettled → s.slotsKept t ∧ s.callsKept t ∧
        ((s.doorAt d).isOpen = true → t.curtainFollows d)) ∧
      AgreeExcept ([.doors, .zones] ++ settledParts) (s.taken (.doorStale d)) t

/-- DOOR_STEP of a used door: the step timer is restarted; the open time of an open door advances up to
its limit, where it becomes long-open; the dose rises while the door is open and decays while it is
closed; the zone's draft term is recomputed and the curtain follows (R80 to R84, R86, R87). A step that
adopts pending contents is the step of the state that holds the new entry: with the record kept where the
zone stands, renewed where the door becomes used, moved to another zone; and a door that becomes unused
ends its opening and returns to its reset values. A failed check is recorded (R76, R89; the hold-over of
the old entry is the model's choice, log entry 19). -/
def Obligations.DoorSteps : Prop :=
  ∀ (d z : Fin 8) (at_ : PartTime) (s : State), s.running = true →
    (s.doorAt d).stepTimer = some at_ →
    ((s.doorAt d).adoptPending = false ∨ s.sessionOn SegmentId.doors = true →
    (s.doorAt d).entry.zone = some z →
    ∃ t, exec (.doorStep d) s = .next t ∧
      ((s.doorAt d).isOpen = true → (s.doorAt d).longOpen = false →
        1000 * (if (s.doorAt d).rampSeen then (s.doorAt d).entry.rampLimit
          else (s.doorAt d).entry.longOpen) ≤ (s.doorAt d).openTime + 500 →
        t.doorAt d = { s.doorAt d with
          stepTimer := (s.atExpiry at_).timer 500
          openTime := (s.doorAt d).openTime + 500
          longOpen := true
          holding := false } ∧
        (s.heldByAnother d z ∨ s.holdOverAt z ≠ none →
          (t.zoneAt z).doorHold = (s.zoneAt z).doorHold) ∧
        (¬ s.heldByAnother d z → s.holdOverAt z = none → (t.zoneAt z).doorHold = false)) ∧
      ((s.doorAt d).isOpen = true → (s.doorAt d).longOpen = false →
        (s.doorAt d).openTime + 500 < 1000 * (if (s.doorAt d).rampSeen
          then (s.doorAt d).entry.rampLimit else (s.doorAt d).entry.longOpen) →
        t.doorAt d = { s.doorAt d with
          stepTimer := (s.atExpiry at_).timer 500
          openTime := (s.doorAt d).openTime + 500
          dose := min 10000 ((s.doorAt d).dose +
            (clamp (divTowardZero ((s.zoneAt z).ts - s.sample.outdoor) 16) 0 400).toNat) } ∧
        (t.zoneAt z).doorHold = (s.zoneAt z).doorHold) ∧
      ((s.doorAt d).isOpen = true → (s.doorAt d).longOpen = true →
        t.doorAt d = { s.doorAt d with stepTimer := (s.atExpiry at_).timer 500 } ∧
        (t.zoneAt z).doorHold = (s.zoneAt z).doorHold) ∧
      ((s.doorAt d).isOpen = false →
        t.doorAt d = { s.doorAt d with
          stepTimer := (s.atExpiry at_).timer 500
          dose := (s.doorAt d).dose - (s.doorAt d).entry.decay } ∧
        (t.zoneAt z).doorHold = (s.zoneAt z).doorHold) ∧
      (t.zoneAt z).g = t.draftTerm z ∧ t.holdOverAt z = s.holdOverAt z ∧
      s.otherDoors t d ∧ s.doorsOnly t z ∧
      (s.loadsSettled → s.slotsKept t ∧ s.callsKept t ∧ t.curtainFollows d) ∧
      AgreeExcept ([.doors, .zones] ++ settledParts) (s.atExpiry at_) t) ∧
    ∀ (entry : DoorEntry) (n : Nat), (s.doorAt d).adoptPending = true →
      s.sessionOn SegmentId.doors = false →
      readDoor (entryAt (s.agent.contents.get SegmentId.doors) d.val) = (entry, n) →
      (n ≠ 0 → ∃ t, exec (.doorStep d) s = .next t ∧
        (s.atExpiry at_).faults t .tableInconsistent d.val) ∧
      (n = 0 → (s.doorAt d).entry.zone ≠ none → entry.zone = (s.doorAt d).entry.zone →
        exec (.doorStep d) s = exec (.doorStep d)
          (s.setDoor d { s.doorAt d with entry, adoptPending := false })) ∧
      (n = 0 → (s.doorAt d).entry.zone = none →
        exec (.doorStep d) s = exec (.doorStep d)
          (s.setDoor d { resetDoor entry with stepTimer := some at_ })) ∧
      (∀ y, n = 0 → (s.doorAt d).entry.zone = some y → entry.zone = some z → y ≠ z →
        exec (.doorStep d) s = exec (.doorStep d) (s.doorMoved at_ d y z entry)) ∧
      ((s.doorAt d).entry.zone = some z → entry.zone = none →
        ∃ t, exec (.doorStep d) s = .next t ∧
          t.doorAt d = { resetDoor entry with stepTimer := (s.atExpiry at_).timer 500 } ∧
          ((s.doorAt d).isOpen = true → (s.atExpiry at_).holdEnds t d z) ∧
          ((s.doorAt d).isOpen = false → t.holdOverAt z = s.holdOverAt z ∧
            (t.zoneAt z).doorHold = (s.zoneAt z).doorHold) ∧
          (t.zoneAt z).g = t.draftTerm z ∧ s.otherDoors t d ∧ s.doorsOnly t z ∧
          (s.loadsSettled → s.slotsKept t ∧ s.callsKept t ∧ t.curtainFollows d) ∧
          AgreeExcept ([.doors, .zones] ++ settledParts) (s.atExpiry at_) t)

/-- The draft term of a zone is the largest part over its doors, at most 10000, and 0 without a used
door (R83). -/
def Obligations.DraftTermIsTheLargestPart : Prop :=
  ∀ (s : State) (z : Fin 8) (part : Fin 8 → Nat),
    (∀ d, part d = if (s.doorAt d).longOpen
      then min 3000 ((s.zoneAt z).entry.kg * (s.doorAt d).dose / 256)
      else (s.zoneAt z).entry.kg * (s.doorAt d).dose / 256) →
    (s.draftTerm z ≤ 10000) ∧
    (∀ d, (s.doorAt d).entry.zone = some z → min 10000 (part d) ≤ s.draftTerm z) ∧
    ((∀ d, (s.doorAt d).entry.zone ≠ some z) → s.draftTerm z = 0) ∧
    ((∃ d, (s.doorAt d).entry.zone = some z) →
      ∃ d, (s.doorAt d).entry.zone = some z ∧ s.draftTerm z = min 10000 (part d))

/-! ## Supply, budget and compressors -/

/-- SUPPLY_FRAME: the held values take the frame's, limited; the state moves by the table of R56; the
settle and gap timers, the banking flag, the ramp ceiling and the line budget follow; entry to GAP puts
the compressors under the short lock and entry to DEWIRED under the long one; leaving LIVE releases every
manual slot; and the zones follow the banking flag, with the bank release where banking ends (R22, R38, R50,
R52, R56 to R58, R60 to R63). With the loads at rest, a change of compressor A's lock condition has the panels'
contributions recomputed (R102, R105). Of the slots' own records it writes those of manual takes that end
alone, and the cooling calls stand unless banking ends. That a bank release goes on in a zone which is not
enabled or has no bank margin when banking begins is the model's reading (log entry 29). -/
def Obligations.SupplyFrameMovesTheState : Prop :=
  ∀ (f : Frame) (s : State) (v : Nat) (on high mid : Bool), s.running = true → f.kind = .state →
    7 ≤ f.payload.length → u8At f.payload 2 ≤ 1 → v = min (u16At f.payload 0) 1200 →
    on = decide (u8At f.payload 2 = 1) → high = decide (s.budget.entry.sag ≤ v) →
    mid = decide (s.budget.entry.gap ≤ v) →
    ∃ t, exec (.supplyFrame f) s = .next t ∧
      t.budget.heldVoltage = v ∧ t.budget.heldAllowance = min (u16At f.payload 3) 600 ∧
      t.budget.heldSurplus = min (u16At f.payload 5) 800 ∧
      t.budget.state = (match s.budget.state with
        | .start => if !on then .dewired else if high then .returning else .start
        | .returning => if on && high then .returning else .dewired
        | .live => if !on then .dewired else if high then .live else if mid then .sag else .gap
        | .sag => if !on then .dewired else if high then .live else if mid then .sag else .gap
        | .gap => if !on then .dewired else if high then .live else if mid then .sag else .gap
        | .dewired => if on && high then .returning else .dewired) ∧
      (t.budget.state = s.budget.state →
        t.budget.settleTimer = s.budget.settleTimer ∧ t.budget.gapTimer = s.budget.gapTimer ∧
          t.budget.ramp = s.budget.ramp) ∧
      (t.budget.state ≠ s.budget.state →
        t.budget.settleTimer = (if t.budget.state = .returning then s.timer 2000 else none) ∧
        t.budget.gapTimer =
          (if t.budget.state = .gap then s.timer (100 * s.budget.entry.gapLimit) else none) ∧
        t.budget.ramp = (if t.budget.state = .dewired then none
          else if t.budget.state = .gap then s.budget.ramp.map fun _ => 0 else s.budget.ramp) ∧
        (s.budget.state = .live → (∀ i, (t.slotAt i).manual = false) ∧
          (s.loadsSettled → ∀ i, (s.slotAt i).manual = true → s.slotReleased t i))) ∧
      (s.loadsSettled → t.budget.state ≠ s.budget.state → t.budget.state = .gap →
        ∀ x, ∀ r ∈ (s.sectionAt x).compressor, (t.sectionAt x).compressor = some
          (if r.state = .offLocked then r
            else { state := .offLocked, lock := .short,
                   lockTimer := s.timer (1000 * s.budget.entry.shortLock), minRunTimer := none })) ∧
      (s.loadsSettled → t.budget.state ≠ s.budget.state → t.budget.state = .dewired →
        ∀ x, ∀ r ∈ (s.sectionAt x).compressor, (t.sectionAt x).compressor = some
          (if r.state = .offLocked ∧ r.lock = .long then r
            else { state := .offLocked, lock := .long,
                   lockTimer := s.timer (1000 * s.budget.entry.longLock), minRunTimer := none })) ∧
      t.budget.banking =
        decide (t.budget.state = .live ∧ 30 ≤ t.budget.heldSurplus) ∧
      t.budget.lineBudget = (match t.budget.state with
        | .live => capped t.budget.ramp
            (min t.budget.heldAllowance s.budget.entry.climateMax +
              if t.budget.banking then min t.budget.heldSurplus 150 else 0)
        | .sag => capped t.budget.ramp
            (min t.budget.heldAllowance s.budget.entry.climateMax *
                (max s.budget.entry.gap (min v s.budget.entry.sag) - s.budget.entry.gap) /
              (s.budget.entry.sag - s.budget.entry.gap))
        | _ => 0) ∧
      t.budget.entry = s.budget.entry ∧ t.budget.batteryBudget = s.budget.batteryBudget ∧
      t.budget.periodTimer = s.budget.periodTimer ∧ s.bankingFollows t ∧
      (s.loadsAtRest → s.panelsFollow t) ∧
      (s.loadsSettled → s.takesEnded t ∧
        (s.budget.state ≠ .live ∨ t.budget.state = .live → s.slotsKept t) ∧
        (s.budget.banking = false ∨ t.budget.banking = true → s.callsKept t)) ∧
      AgreeExcept ([.supply, .zones] ++ settledParts) (s.taken (.supplyFrame f)) t

/-- SUPPLY_FRAME in LIVE that stays in LIVE: a surplus of 30 or more begins banking in the enabled
zones with a bank margin, and a smaller one ends it with a bank release of 300 s in the zones that
banked, where a negative D rises to 0 (R22, R63). That a bank release goes on in a zone which is not enabled
or has no bank margin when banking begins is the model's reading (log entry 29). -/
def Obligations.BankingFollowsTheSurplus : Prop :=
  ∀ (f : Frame) (s : State), s.running = true → f.kind = .state → 7 ≤ f.payload.length →
    u8At f.payload 2 = 1 → s.budget.state = .live →
    s.budget.entry.sag ≤ min (u16At f.payload 0) 1200 →
    ∃ t, exec (.supplyFrame f) s = .next t ∧ t.budget.state = .live ∧
      (s.budget.banking = false → 30 ≤ min (u16At f.payload 5) 800 →
        ∀ z, (t.zoneAt z).unlimited = (if (s.zoneAt z).entry.enabled ∧
            0 < (s.zoneAt z).entry.bankMargin
          then { s.zoneAt z with banking := true, bankRelease := false, bankTimer := none }.unlimited
          else (s.zoneAt z).unlimited)) ∧
      (s.budget.banking = true → min (u16At f.payload 5) 800 < 30 →
        ∀ z, (t.zoneAt z).unlimited = (if (s.zoneAt z).banking
          then { s.zoneAt z with
            banking := false, bankRelease := true, bankTimer := s.timer 300000
            d := max (s.zoneAt z).d 0
            lastD := if (s.zoneAt z).d < 0 then 0 else (s.zoneAt z).lastD }.unlimited
          else (s.zoneAt z).unlimited)) ∧
      (s.budget.banking = decide (30 ≤ min (u16At f.payload 5) 800) →
        ∀ z, (t.zoneAt z).unlimited = (s.zoneAt z).unlimited)

/-- SUPPLY_FRESHNESS_EXPIRY: SUPPLY_STALE is raised and recorded in every state, and a state other
than DEWIRED moves to DEWIRED with its timers stopped, its ramp gone, its line budget 0 and every
compressor under the long lock; the rest of the supply record is kept, and in DEWIRED the whole of it; leaving
LIVE releases every manual slot and ends banking, with the bank release in the zones that banked (R22, R38,
R50, R59 to R61, R63). With the loads at rest, a change of compressor A's lock condition has the panels'
contributions recomputed (R102, R105). Slot records and cooling calls stand but for what leaving LIVE and the
end of banking change. That the record holds the supply state before the move is the model's reading (log
entry 14). -/
def Obligations.SupplyGoesStale : Prop :=
  ∀ s : State, s.running = true →
    ∃ t, exec .supplyFreshnessExpiry s = .next t ∧ s.raises t .supplyStale ∧
      s.faults t .supplyStale 0 ∧
      { t.budget with rows := s.budget.rows } =
        (if s.budget.state = .dewired then s.budget
          else { s.budget with
            state := .dewired, settleTimer := none, gapTimer := none, ramp := none, lineBudget := 0
            banking := if s.budget.state = .live then false else s.budget.banking }) ∧
      (s.budget.state ≠ .dewired →
        ∀ x r, (t.sectionAt x).compressor = some r → r.state = .offLocked ∧ r.lock = .long) ∧
      (s.budget.state = .live → (∀ i, (t.slotAt i).manual = false) ∧
        (s.loadsSettled → ∀ i, (s.slotAt i).manual = true → s.slotReleased t i)) ∧
      s.bankingFollows t ∧
      (s.loadsAtRest → s.panelsFollow t) ∧
      (s.loadsSettled → s.takesEnded t ∧
        (s.budget.state ≠ .live → s.slotsKept t) ∧
        (s.budget.state ≠ .live ∨ s.budget.banking = false → s.callsKept t)) ∧
      AgreeExcept ([.supply, .zones] ++ settledParts) (s.taken .supplyFreshnessExpiry) t

/-- SETTLE_EXPIRY in RETURN: the state becomes LIVE with the ramp ceiling and the line budget at 0, and
banking is evaluated with the held surplus and begins in the enabled zones with a bank margin; the rest of the
supply record is kept (R22, R57, R62, R63). With the loads at rest, a change of compressor A's lock condition
has the panels' contributions recomputed (R102). Slot records stand, and so do the cooling calls unless
banking ends. That a bank release goes on in the other zones is the model's reading (log entry 29). -/
def Obligations.SettlingEnds : Prop :=
  ∀ (at_ : PartTime) (s : State), s.running = true → s.budget.settleTimer = some at_ →
    s.budget.state = .returning →
    ∃ t, exec .settleExpiry s = .next t ∧
      { t.budget with rows := s.budget.rows } = { s.budget with
        state := .live, settleTimer := none, gapTimer := none, ramp := some 0, lineBudget := 0
        banking := decide (30 ≤ s.budget.heldSurplus) } ∧
      (s.atExpiry at_).bankingFollows t ∧
      (s.loadsAtRest → s.panelsFollow t) ∧
      (s.loadsSettled → s.slotsKept t ∧
        (s.budget.banking = false ∨ 30 ≤ s.budget.heldSurplus → s.callsKept t)) ∧
      AgreeExcept ([.supply, .zones] ++ settledParts) (s.atExpiry at_) t

/-- GAP_EXPIRY in GAP: the state becomes DEWIRED, the ramp ceiling absent, and every compressor takes
the long lock, kept running where it was long already (R38, R58, R60, R62), with the panels' contributions
recomputed (R102, R105). -/
def Obligations.GapRunsOut : Prop :=
  ∀ (at_ : PartTime) (s : State), s.running = true → s.budget.gapTimer = some at_ →
    s.budget.state = .gap →
    ∃ t, exec .gapExpiry s = .next t ∧
      { t.budget with rows := s.budget.rows } = { s.budget with
        state := .dewired, settleTimer := none, gapTimer := none, ramp := none, lineBudget := 0 } ∧
      (∀ x r, (t.sectionAt x).compressor = some r → r.state = .offLocked ∧ r.lock = .long) ∧
      (s.loadsSettled →
        (∀ x r, (s.sectionAt x).compressor = some r → r.state = .offLocked → r.lock = .long →
          (t.sectionAt x).compressor = some r) ∧ s.slotsKept t ∧ s.callsKept t ∧
        s.panelsFollow t) ∧
      AgreeExcept ([.supply] ++ settledParts) (s.atExpiry at_) t

/-- BUDGET_PERIOD_EXPIRY: the timer is restarted, in LIVE a present ramp ceiling rises by 20 or ends at
its target, and the pass leaves no pool granted more than its budget (R62, R67, R69). After it every
request but a compressor's is the one its contributions form (R30, R31), and with the loads at rest a
compressor's too; every level follows its grant (R43), and every changed level has its command placed
(R44); and the limited flags of the rows and of the zones and PRIORITY_LIMITED follow the grants (R68, R73,
R74). LOADS contents that wait are adopted, unless a LOADS session is open (R51); which glazing asks a
changed slot keeps, which change of a slot replaces its compressor, that a change of compressor A's lock
condition has the panels' contributions recomputed after that, and how stream numbers of more than 12 bits are
read, are log entries 17, 27, 35 and 18. -/
def Obligations.BudgetPeriodEnds : Prop :=
  ∀ (at_ : PartTime) (s : State) (target : Nat), s.running = true →
    s.budget.periodTimer = some at_ →
    target = min s.budget.heldAllowance s.budget.entry.climateMax +
      (if s.budget.banking then min s.budget.heldSurplus 150 else 0) →
    ∃ t, exec .budgetPeriodExpiry s = .next t ∧
      (∀ c, s.budget.state = .live → s.budget.ramp = some c → target ≤ c + 20 →
        t.budget.ramp = none ∧ t.budget.lineBudget = target) ∧
      (∀ c, s.budget.state = .live → s.budget.ramp = some c → c + 20 < target →
        t.budget.ramp = some (c + 20) ∧ t.budget.lineBudget = c + 20) ∧
      (s.budget.state ≠ .live ∨ s.budget.ramp = none →
        t.budget.ramp = s.budget.ramp ∧ t.budget.lineBudget = s.budget.lineBudget) ∧
      { t.budget with rows := s.budget.rows } = { s.budget with
        periodTimer := (s.atExpiry at_).timer 250, ramp := t.budget.ramp,
        lineBudget := t.budget.lineBudget } ∧
      t.withinBudgets ∧ t.levelsGiven ∧ t.limitsFollow ∧
      (s.loadsSettled → s.slotsKept t ∧ s.callsKept t ∧ s.changesCommanded t ∧
        ∀ i, (∀ l ∈ (s.slotAt i).entry, l.kind ≠ .compressor) →
          (s.slotAt i).asks.cooling = none → t.requestFormed i) ∧
      (s.loadsAtRest → ∀ i, t.requestFormed i) ∧
      (s.actuator.loadsPending = true → s.sessionOn SegmentId.loads = true →
        t.actuator.loadsPending = true ∧ s.slotsKept t ∧ s.callsKept t) ∧
      (s.actuator.loadsPending = true → s.sessionOn SegmentId.loads = false → s.loadsAdopted t) ∧
      AgreeExcept ([.supply] ++ settledParts) (s.atExpiry at_) t

/-- A pass allocates each pool class by class, from class 0 up, after the manual requests: a class
that fits in what is left is granted in full, the first that does not is scaled by the floor and the
minimum power, and higher classes are granted 0. The grants of a pool sum to at most its budget, and
where a request is not granted in full every request of a higher class holds grant 0 (R69). -/
def Obligations.AllocationByClasses : Prop :=
  ∀ (s : State) (pool : Pool),
    (∀ (i : Fin 32) (l : LoadEntry) (k : Fin 4) (left : Int), (s.slotAt i).entry = some l →
      l.pool = pool → (s.slotAt i).participates = true → (s.slotAt i).manual = false →
      (s.rowAt i).cls = k → left = s.leftFor pool k →
      ((s.allocate).rowAt i).request = (s.rowAt i).request ∧ ((s.allocate).rowAt i).cls = k ∧
      ((s.classSum pool k : Int) ≤ left →
        ((s.allocate).rowAt i).grant = (s.rowAt i).request) ∧
      (0 ≤ left → left < s.classSum pool k →
        ((s.allocate).rowAt i).grant =
          scaledGrant (s.rowAt i).request left.toNat (s.classSum pool k) l.minPower) ∧
      (left < 0 → ((s.allocate).rowAt i).grant = 0)) ∧
    s.allocate.granted pool ≤ s.poolBudget pool ∧
    ((∀ i, (s.slotAt i).manual = true → (s.rowAt i).cls = 0) →
      ∀ (i j : Fin 32), (s.slotAt i).entry.any (·.pool = pool) = true →
        (s.slotAt j).entry.any (·.pool = pool) = true →
        ((s.allocate).rowAt i).grant < ((s.allocate).rowAt i).request →
        ((s.allocate).rowAt i).cls < ((s.allocate).rowAt j).cls →
        ((s.allocate).rowAt j).grant = 0)

/-- MINIMUM_RUN_EXPIRY: the record enters RUN, or stops under the long lock where nothing is asked of
the compressor or its grant falls to 0 in the event (R36 to R38). With the loads at rest, as the end of
every event leaves them, it enters RUN exactly while the section's cooling call is set or a panel asks
its dehumidify level, and stops otherwise (R35, R37). A stop of compressor A has the panels' contributions
recomputed (R102, R104). -/
def Obligations.MinimumRunEnds : Prop :=
  ∀ (x : BodySection) (r : CompressorRec) (at_ : PartTime) (s : State), s.running = true →
    s.loadsSettled → (s.sectionAt x).compressor = some r → r.minRunTimer = some at_ →
    r.state = .runMin →
    ∃ t u, exec (.minimumRunExpiry x) s = .next t ∧ (t.sectionAt x).compressor = some u ∧
      u.minRunTimer = none ∧
      (u = { r with state := .run, minRunTimer := none } ∨
        (u.state = .offLocked ∧ u.lock = .long ∧
          u.lockTimer = (s.atExpiry at_).timer (1000 * s.budget.entry.longLock))) ∧
      ((s.sectionAt x).call = false →
        (∀ i, s.compressorSlot x = some i → ∀ p, (s.slotAt i).asks.glazing.get p = none) →
        u.state = .offLocked) ∧
      (∀ i l, s.loadsAtRest → s.compressorSlot x = some i → (s.slotAt i).entry = some l →
        0 < l.rated →
        (∀ j, j ≠ i → (s.slotAt j).entry.all fun o => o.kind ≠ .compressor || o.place ≠ .body x) →
        (∀ p, ∀ a ∈ (s.slotAt i).asks.glazing.get p, a = .level 30) →
        u = (if (s.sectionAt x).call = true ∨ (∃ p, (s.slotAt i).asks.glazing.get p ≠ none)
          then { r with state := .run, minRunTimer := none }
          else { state := .offLocked, lock := .long, minRunTimer := none
                 lockTimer := (s.atExpiry at_).timer (1000 * s.budget.entry.longLock) })) ∧
      s.slotsKept t ∧ s.callsKept t ∧ s.panelsFollow t ∧ AgreeExcept settledParts (s.atExpiry at_) t

/-- LOCK_EXPIRY of a running lock. The pools stay within their budgets, and the end of compressor A's lock
has every panel's contributions recomputed in the event (R69, R102). Of a section with one compressor slot
(R27), whose level and grant are 0 under the lock and which panels ask only in section A (R104): the record
enters OFF_READY with no lock running, and starts in the event exactly where the slot is OK, no start-up hold
stands and its grant yields a level (R36, R39, R43). Its grant is 0 where neither the cooling call is set nor
a panel asks for dehumidifying; where one of them asks, the loads are at rest, at A's lock with the panels'
contributions as R102 gives them, and the line budget holds what every slot of the pool asks, the level asked
is granted in full (R31, R35, R69, R104). -/
def Obligations.RestartLockEnds : Prop :=
  ∀ (x : BodySection) (r : CompressorRec) (at_ : PartTime) (s : State), s.running = true →
    (s.sectionAt x).compressor = some r → r.lockTimer = some at_ →
    ∃ t, exec (.lockExpiry x) s = .next t ∧ t.withinBudgets ∧
      (s.loadsSettled → s.slotsKept t ∧ s.callsKept t ∧ s.panelsFollow t) ∧
      AgreeExcept settledParts (s.atExpiry at_) t ∧
      ∀ (i : Fin 32) (l : LoadEntry) (dehumidify : Prop) (power : Nat), s.loadsSettled →
        r.state = .offLocked → (s.slotAt i).entry = some l → l.kind = .compressor →
        l.place = .body x →
        (∀ j, j ≠ i → (s.slotAt j).entry.all fun o => o.kind ≠ .compressor || o.place ≠ .body x) →
        (s.slotAt i).manual = false → (s.slotAt i).commanded = 0 → (s.rowAt i).grant = 0 →
        (x ≠ .a → ∀ p, (s.slotAt i).asks.glazing.get p = none) →
        (dehumidify ↔ x = .a ∧ 200 < s.sample.outdoor ∧ ∃ p, s.treated p .demist) →
        power = l.levelPower (if (s.sectionAt x).call = true
          then max 30 (min 100 ((s.sectionAt x).demand / 100)) else 30) →
        ∃ u, (t.sectionAt x).compressor = some u ∧
          ((s.slotAt i).state ≠ .ok ∨ s.actuator.startHold = true →
            u = { r with state := .offReady, lockTimer := none }) ∧
          ((s.slotAt i).state = .ok → s.actuator.startHold = false →
            (l.levelOf (t.rowAt i).grant = 0 →
              u = { r with state := .offReady, lockTimer := none }) ∧
            (l.levelOf (t.rowAt i).grant ≠ 0 →
              u = { r with
                state := .runMin, lockTimer := none
                minRunTimer := (s.atExpiry at_).timer (1000 * s.budget.entry.minimumRun) })) ∧
          ((s.slotAt i).state = .ok →
            (s.slotAt i).asks = { noAsks with
              cooling := (s.slotAt i).asks.cooling, glazing := (s.slotAt i).asks.glazing } →
            ((s.sectionAt x).call = false → ¬ dehumidify →
              (t.rowAt i).request = 0 ∧ (t.rowAt i).grant = 0) ∧
            ((s.sectionAt x).call = true ∨ dehumidify →
              (t.rowAt i).request = power ∧
              (s.loadsAtRest → (x = .a → ∀ p, s.panelFollows s p) → l.pool = .line →
                power + (allSlots.map fun j =>
                  if j ≠ i ∧ (s.slotAt j).entry.any (·.pool = .line)
                  then (s.rowAt j).request else 0).sum ≤ s.budget.lineBudget →
                (t.rowAt i).grant = power)))

/-! ## Zones -/

/-- ZONE_PASS of a zone whose adopted entry is disabled: the zone is OFF, D, I and the saturation count
are 0, no preset is owed and Tm, e and P are absent; Ts is kept (R5, R10, R26). Every pass adopts a pending
schedule or evaluates the active band, hands off its zone and ends the start-up hold (R8, R9, R20, R28, R32
to R35, R40 to R42; that a disabled zone's pass ends the hold is the model's reading, log entry 22). A pass
that adopts a zone's pending contents is the pass of the state that holds them, and a failed check is
recorded with the zone's number (R24, R25, R33). The ladder of an entry that is disabled claims its slots
too (log entry 25); an entry of the ladder whose slot another zone's ladder owns, or an earlier entry of its
own names, claims none and is recorded with the slot's number (R33). A schedule adopted with OUTDOOR_UNKNOWN
and no active band is looked up plainly (log entry 10), and its list is cut by its last bound too (log entry
9). -/
def Obligations.DisabledZoneIsOff : Prop :=
  ∀ (z : Fin 8) (at_ : PartTime) (s : State), s.running = true →
    (s.zoneAt z).passTimer = some at_ →
    (s.zoneKeeps z → (s.zoneAt z).entry.enabled = false →
      ∃ t, exec (.zonePass z) s = .next t ∧
        (t.zoneAt z).unlimited = { s.zoneAt z with
          mode := .off, tm := none, e := none, p := none, i := 0, d := 0, lastD := 0,
          preset := false, satCount := 0
          passTimer := (s.atExpiry at_).timer (100 * (s.zoneAt z).entry.passPeriod) }.unlimited ∧
        t.actuator.startHold = false ∧
        (∀ y, y ≠ z → (t.zoneAt y).unlimited = (s.zoneAt y).unlimited) ∧ s.passed t z ∧
        (s.loadsSettled → s.slotsKept t) ∧
        AgreeExcept ([.zones, .schedule, .hold] ++ settledParts) (s.atExpiry at_) t) ∧
    ∀ (entry : ZoneEntry) (n : Nat), ¬ s.zoneKeeps z →
      readZone (entryAt (s.agent.contents.get SegmentId.zones) z.val) = (entry, n) →
      (n ≠ 0 → ∃ t, exec (.zonePass z) s = .next t ∧
        (s.atExpiry at_).faults t .tableInconsistent z.val) ∧
      (n = 0 → s.ladderFree z entry.ladder →
        exec (.zonePass z) s = exec (.zonePass z) (s.zoneAdopted z entry)) ∧
      (∃ t u, exec (.zonePass z) s = .next t ∧ exec (.zonePass z) (s.zoneAdopted z entry) = .next u ∧
        AgreeExcept [.notices, .vehicleLine] u t) ∧
      ∀ k, ∀ x ∈ entry.ladder[k]?, n = 0 → s.claimRefused z entry.ladder k →
        (∀ j < k, ¬ s.claimRefused z entry.ladder j) →
        ∃ t, exec (.zonePass z) s = .next t ∧
          (s.atExpiry at_).faults t .tableInconsistent x.slot.val

/-- ZONE_PASS of an enabled zone without a usable member: the zone is in FALLBACK, Tm, e and P are absent,
Ts follows R12 with the band of the pass, I is kept (0 from OFF), U is F + G + the fallback bias, and D is
never negative; the record otherwise stands (R10 to R13, R16, R18, R19). The pass hands off as every pass
does (R8, R9, R20, R32 to R35, R40 to R42), and ends the start-up hold (R28; of any zone, log entry 22). A
schedule adopted with OUTDOOR_UNKNOWN and no active band is looked up plainly (log entry 10), and its list is
cut by its last bound too (log entry 9). -/
def Obligations.ZoneFallsBack : Prop :=
  ∀ (z : Fin 8) (at_ : PartTime) (s : State) (f u d : Int), s.running = true →
    (s.zoneAt z).passTimer = some at_ → s.zoneKeeps z → (s.zoneAt z).entry.enabled = true →
    (∀ m ∈ (s.zoneAt z).entry.members, ∀ c : Fin 48, c.val = m.channel →
      (s.channelAt c).value = none) →
    f = clamp ((s.zoneAt z).entry.rounding.div
      ((s.zoneAt z).entry.kf * ((s.zoneAt z).entry.tbal - s.sample.outdoor)) 256) (-10000) 10000 →
    u = f + (s.zoneAt z).g + (s.zoneAt z).entry.fallbackBias → d = clamp u 0 10000 →
    ∃ t, exec (.zonePass z) s = .next t ∧
      (t.zoneAt z).unlimited = { s.zoneAt z with
        mode := .fallback, tm := none, e := none, p := none, f
        ts := clamp (t.baseSetpoint z + s.setpointOffset z +
          (if (s.zoneAt z).banking then ((s.zoneAt z).entry.bankMargin : Int) else 0) +
          (if z = 0 ∧ (s.zoneAt z).boost then 300 else 0))
          (s.zoneAt z).entry.setMin (s.zoneAt z).entry.setMax
        preset := (if (s.zoneAt z).mode = ZoneMode.fallback then (s.zoneAt z).preset else false)
        i := (if (s.zoneAt z).mode = ZoneMode.off then 0 else (s.zoneAt z).i)
        d := (if z = 0 then (if (s.zoneAt z).heatMax then 10000
            else if (s.zoneAt z).floor then max d 6000 else d)
          else if (s.zoneAt z).climateOff then 0 else d)
        lastD := (t.zoneAt z).d
        satCount := (if 10000 < u.natAbs then min ((s.zoneAt z).satCount + 1) 1200 else 0)
        passTimer := (s.atExpiry at_).timer (100 * (s.zoneAt z).entry.passPeriod) }.unlimited ∧
      t.actuator.startHold = false ∧ (∀ y, y ≠ z → (t.zoneAt y).unlimited = (s.zoneAt y).unlimited) ∧
      s.passed t z ∧ (s.loadsSettled → s.slotsKept t) ∧
      AgreeExcept ([.zones, .schedule, .hold] ++ settledParts) (s.atExpiry at_) t

/-- ZONE_PASS of an enabled zone with usable members: REGULATE, the measurement, setpoint, error and
terms of R11 to R14, the bumpless preset of R17, the conditional integration of R15, the output of R18
with its adjustments, the saturation count of R19 and the hand-off of R20, with the band of R8 and the
contributions of R32 to R35 and R40 to R42. A pass that adopts a schedule takes its setpoint from the new
list (R9; with OUTDOOR_UNKNOWN and no active band by the plain lookup, log entry 10; the list cut by its last
bound too, log entry 9). The pass ends the start-up hold (R28; of any zone, log entry 22). `start` is the
accumulator the pass begins from. -/
def Obligations.ZoneRegulates : Prop :=
  ∀ (z : Fin 8) (at_ : PartTime) (s : State) (ms : List (Int × Nat)) (old : ZoneRec)
    (tm ts err p f start i j uj u d : Int) (preset : Bool) (owed hold reject : Prop),
    s.running = true → old = s.zoneAt z → old.passTimer = some at_ → s.zoneKeeps z →
    old.entry.enabled = true →
    ms = old.entry.members.filterMap s.memberValue → ms ≠ [] →
    tm = old.entry.rounding.div ((ms.map fun m => m.1 * (m.2 : Int)).sum) (ms.map Prod.snd).sum →
    ts = clamp (s.scheduled.baseSetpoint z + s.setpointOffset z +
      (if old.banking then (old.entry.bankMargin : Int) else 0) +
      (if z = 0 ∧ old.boost then 300 else 0)) old.entry.setMin old.entry.setMax →
    err = clamp (ts - tm) (-2000) 2000 → p = old.entry.rounding.div (old.entry.kp * err) 256 →
    f = clamp (old.entry.rounding.div (old.entry.kf * (old.entry.tbal - s.sample.outdoor)) 256)
      (-10000) 10000 →
    (hold ↔ old.doorHold = true ∨ (z = 0 ∧ old.heatMax = true) ∨ (z ≠ 0 ∧ old.climateOff = true)) →
    (owed ↔ old.mode = .fallback ∨ old.preset = true) → (preset = true ↔ owed ∧ hold) →
    (owed → ¬ hold → start = clamp ((old.lastD - p - f - old.g) * 256) (-2560000) 2560000) →
    (¬ owed ∨ hold → start = if old.mode = .off then 0 else old.i) →
    j = clamp (start + old.entry.ki * err) (-2560000) 2560000 →
    uj = p + old.entry.rounding.div j 256 + f + old.g →
    (reject ↔ (old.heatLimited = true ∧ 0 < err) ∨ (old.coolLimited = true ∧ err < 0) ∨
      (10000 < uj ∧ 0 < err) ∨ (uj < -10000 ∧ err < 0) ∨ (old.bankRelease = true ∧ j < start)) →
    (hold ∨ reject → i = start) → (¬ hold → ¬ reject → i = j) →
    u = p + old.entry.rounding.div i 256 + f + old.g →
    d = clamp u (if old.entry.cool = false ∨ old.bankRelease = true then 0 else -10000) 10000 →
    ∃ t, exec (.zonePass z) s = .next t ∧
      (t.zoneAt z).unlimited = { old with
        mode := .regulate, tm := some tm, ts, e := some err, p := some p, f, i, preset
        d := (if z = 0 then (if old.heatMax then 10000 else if old.floor then max d 6000 else d)
          else if old.climateOff then 0 else d)
        lastD := (t.zoneAt z).d
        satCount := (if 10000 < u.natAbs then min (old.satCount + 1) 1200 else 0)
        passTimer := (s.atExpiry at_).timer (100 * old.entry.passPeriod) }.unlimited ∧
      t.actuator.startHold = false ∧ (∀ y, y ≠ z → (t.zoneAt y).unlimited = (s.zoneAt y).unlimited) ∧
      s.passed t z ∧ (s.loadsSettled → s.slotsKept t) ∧
      AgreeExcept ([.zones, .schedule, .hold] ++ settledParts) (s.atExpiry at_) t

/-- BANK_RELEASE_EXPIRY clears bank release, and HOLD_OVER_EXPIRY clears the door hold of a zone that
no door holds: nothing else changes (R22, R85). -/
def Obligations.ZoneTimersClearTheirFlags : Prop :=
  ∀ (z : Fin 8) (at_ : PartTime) (s : State), s.running = true →
    ((s.zoneAt z).bankTimer = some at_ →
      exec (.bankReleaseExpiry z) s = .next ((s.atExpiry at_).setZone z
        { s.zoneAt z with bankRelease := false, bankTimer := none })) ∧
    (s.holdOverAt z = some at_ →
      (∀ d, (s.doorAt d).entry.zone = some z → (s.doorAt d).holding = false) →
      exec (.holdOverExpiry z) s = .next (((s.atExpiry at_).setHoldOver z none).setZone z
        { s.zoneAt z with doorHold := false }))

/-! ## Panels -/

/-- PANEL_EVALUATION of a panel that is not OFF, with nothing to adopt, under the ice test or a DEFROST_NOW
entry: the panel is in DEFROST with its contributions, the zone 0 flags are set, an entry to DEFROST raises
the D of a zone 0 that is not OFF to at least 6000, handed off as it rises, and no other field of zone 0's
record changes (R20, R21, R34, R93, R97, R100, R102 to R104). An evaluation that adopts contents is the evaluation of the state that holds them;
a panel that becomes disabled is OFF with no contribution; a failed check is recorded (R91, R106). -/
def Obligations.IceIsDefrosted : Prop :=
  ∀ (p : Fin 4) (at_ : PartTime) (s : State), s.running = true →
    (s.panelAt p).evalTimer = some at_ → s.panelAdopts p at_ ∧
    (s.glazing.dewPending = false ∨ s.sessionOn SegmentId.dewpoint = true →
    (s.panelAt p).adoptPending = false ∨ s.sessionOn SegmentId.glazing = true →
    (s.panelAt p).entry.enabled = true → (s.panelAt p).state ≠ .off →
    s.defrostNow p = true ∨ (s.panelInputs (s.panelAt p).entry).ice = true →
    ∃ t, exec (.panelEvaluation p) s = .next t ∧
      (t.panelAt p).state = .defrost ∧
      (t.panelAt p).evalTimer = (s.atExpiry at_).timer 1000 ∧
      ((s.panelAt p).state ≠ .defrost → (t.panelAt p).origin = none ∧
        (t.panelAt p).escalateTimer = none ∧ (t.panelAt p).runOnTimer = none ∧
        ((s.zoneAt 0).mode ≠ .off → (t.zoneAt 0).d = max (s.zoneAt 0).d 6000)) ∧
      ((s.panelAt p).state = .defrost →
        t.panelAt p = { s.panelAt p with evalTimer := (t.panelAt p).evalTimer }) ∧
      (t.zoneAt 0).boost = true ∧ (t.zoneAt 0).floor = true ∧
      s.cabFlagged t (decide ((s.panelAt p).state ≠ .defrost)) ∧
      (∀ o, o ≠ p → t.panelAt o = s.panelAt o) ∧
      (∀ z, z ≠ 0 → (t.zoneAt z).unlimited = (s.zoneAt z).unlimited) ∧
      (s.loadsSettled → s.slotsKept t ∧ s.panelFollows t p ∧
        s.floorHanded t (decide ((s.panelAt p).state ≠ .defrost))) ∧
      AgreeExcept ([.panels, .zones] ++ settledParts) (s.atExpiry at_) t)

/-- PANEL_EVALUATION without ice and without a DEFROST_NOW entry: the transition of R97 by the fog
margin, with the timers of R98 and R99, the zone 0 flags, no other field of zone 0's record, and the
contributions of R102 and R104 (R93, R97 to R99, R102 to R104). An evaluation that adopts a pending
depression table or a pending entry is the evaluation of the state that holds it; a panel that becomes
disabled is OFF with no contribution; a failed check is recorded (R91, R106). The margin and the ice test
are those of the dew point, of the glass temperature and of the outdoor value, from the channels as their
quality gives them (R94 to R96). -/
def Obligations.PanelMovesByItsMargin : Prop :=
  (∀ (s : State) (e : PanelEntry), s.readingFollows e (s.panelInputs e)) ∧
  ∀ (p : Fin 4) (at_ : PartTime) (s : State) (m : Option Int) (old : PanelRec), s.running = true →
    old = s.panelAt p → old.evalTimer = some at_ →
    (s.glazing.dewPending = false ∨ s.sessionOn SegmentId.dewpoint = true →
    old.adoptPending = false ∨ s.sessionOn SegmentId.glazing = true →
    old.entry.enabled = true → s.defrostNow p = false →
    (s.panelInputs old.entry).ice = false → m = (s.panelInputs old.entry).margin →
    ∃ t, exec (.panelEvaluation p) s = .next t ∧
      (t.panelAt p).evalTimer = (s.atExpiry at_).timer 1000 ∧
      (∀ x, m = some x → x < old.entry.marginOn → old.state = .watch ∨ old.state = .runOn →
        (t.panelAt p).state = .demist ∧ (t.panelAt p).origin = none ∧
          (t.panelAt p).runOnTimer = none ∧
          (t.panelAt p).escalateTimer = (s.atExpiry at_).timer (1000 * old.entry.escalate)) ∧
      ((∀ x, m = some x → old.entry.marginOn ≤ x) → old.state = .watch ∨ old.state = .runOn →
        t.panelAt p = { old with evalTimer := (t.panelAt p).evalTimer }) ∧
      (∀ x, m = some x → old.entry.marginOff ≤ x → old.state = .demist ∨ old.state = .defrost →
        0 < old.entry.runOn →
        (t.panelAt p).state = .runOn ∧ (t.panelAt p).escalateTimer = none ∧
          (t.panelAt p).origin = some (if old.state = .demist then .demist else .defrost) ∧
          (t.panelAt p).runOnTimer = (s.atExpiry at_).timer (1000 * old.entry.runOn)) ∧
      (∀ x, m = some x → old.entry.marginOff ≤ x → old.state = .demist ∨ old.state = .defrost →
        old.entry.runOn = 0 → (t.panelAt p).state = .watch ∧ (t.panelAt p).origin = none ∧
          (t.panelAt p).escalateTimer = none ∧ (t.panelAt p).runOnTimer = none) ∧
      (m = none → old.state = .defrost → 0 < old.entry.runOn →
        (t.panelAt p).state = .runOn ∧ (t.panelAt p).origin = some .defrost ∧
          (t.panelAt p).escalateTimer = none ∧
          (t.panelAt p).runOnTimer = (s.atExpiry at_).timer (1000 * old.entry.runOn)) ∧
      (m = none → old.state = .defrost → old.entry.runOn = 0 →
        (t.panelAt p).state = .watch ∧ (t.panelAt p).origin = none ∧
          (t.panelAt p).escalateTimer = none ∧ (t.panelAt p).runOnTimer = none) ∧
      (∀ x, m = some x → old.entry.marginOn ≤ x → x < old.entry.marginOff → old.state = .demist →
        t.panelAt p = { old with
          evalTimer := (t.panelAt p).evalTimer
          escalateTimer := (s.atExpiry at_).timer (1000 * old.entry.escalate) }) ∧
      ((∀ x, m = some x → x < old.entry.marginOn) → (∀ x, m = some x → x < old.entry.marginOff) →
        old.state = .demist →
        t.panelAt p = { old with evalTimer := (t.panelAt p).evalTimer }) ∧
      (∀ x, m = some x → x < old.entry.marginOff → old.state = .defrost →
        t.panelAt p = { old with evalTimer := (t.panelAt p).evalTimer }) ∧
      (old.state ≠ .off → s.cabFlagged t false) ∧
      (old.state = .off → (t.zoneAt 0).unlimited = (s.zoneAt 0).unlimited) ∧
      (∀ o, o ≠ p → t.panelAt o = s.panelAt o) ∧
      (∀ z, z ≠ 0 → (t.zoneAt z).unlimited = (s.zoneAt z).unlimited) ∧
      (s.loadsSettled → s.slotsKept t ∧ s.callsKept t ∧ (old.state ≠ .off → s.panelFollows t p)) ∧
      AgreeExcept ([.panels, .zones] ++ settledParts) (s.atExpiry at_) t) ∧
    s.panelAdopts p at_

/-- ESCALATE_EXPIRY: the panel enters DEFROST with the set of the defrost floor, and a D that it raises is
handed off; RUN_ON_EXPIRY: the panel enters WATCH with its origin absent. Its contributions follow, and no
field of zone 0's record but those of the floor and the boost changes (R20, R21, R34, R98 to R100, R102 to
R104). -/
def Obligations.PanelTimersExpire : Prop :=
  ∀ (p : Fin 4) (at_ : PartTime) (s : State), s.running = true →
    ((s.panelAt p).escalateTimer = some at_ →
      ∃ t, exec (.escalateExpiry p) s = .next t ∧
        t.panelAt p = { s.panelAt p with
          state := .defrost, origin := none, escalateTimer := none, runOnTimer := none } ∧
        (t.zoneAt 0).floor = true ∧
        ((s.zoneAt 0).mode ≠ .off →
          (t.zoneAt 0).d = max (s.zoneAt 0).d 6000 ∧
            ((s.zoneAt 0).d < 6000 → (t.zoneAt 0).lastD = 6000)) ∧
        s.cabFlagged t true ∧
        (∀ o, o ≠ p → t.panelAt o = s.panelAt o) ∧
        (∀ z, z ≠ 0 → (t.zoneAt z).unlimited = (s.zoneAt z).unlimited) ∧
        (s.loadsSettled → s.slotsKept t ∧ s.panelFollows t p ∧ s.floorHanded t true) ∧
        AgreeExcept ([.panels, .zones] ++ settledParts) (s.atExpiry at_) t) ∧
    ((s.panelAt p).runOnTimer = some at_ →
      ∃ t, exec (.runOnExpiry p) s = .next t ∧
        t.panelAt p = { s.panelAt p with
          state := .watch, origin := none, escalateTimer := none, runOnTimer := none } ∧
        s.cabFlagged t false ∧
        (∀ o, o ≠ p → t.panelAt o = s.panelAt o) ∧
        (∀ z, z ≠ 0 → (t.zoneAt z).unlimited = (s.zoneAt z).unlimited) ∧
        (s.loadsSettled → s.slotsKept t ∧ s.callsKept t ∧ s.panelFollows t p) ∧
        AgreeExcept ([.panels, .zones] ++ settledParts) (s.atExpiry at_) t)

/-! ## Slots -/

/-- REFRESH_EXPIRY of a slot that is not UNBOUND or MANUAL: the echo check moves the mismatch count; a
command is placed with the next sequence and the level as it stands, which makes the echoed level absent
and restarts the timer; and an OK slot whose count reaches 3 is FAULTED at level 0, with its notice and its
fault (R44, R45, R47, R48); with the loads at rest, a change of compressor A's lock condition has the panels'
contributions recomputed (R102, R104). That the fall of its level and the refresh are one command is the
model's reading (log entry 34). -/
def Obligations.SlotIsRefreshed : Prop :=
  ∀ (i : Fin 32) (l : LoadEntry) (old : SlotRec) (at_ : PartTime) (s : State) (checked wrong : Prop)
    (count : Nat), s.running = true → s.loadsSettled → old = s.slotAt i →
    old.refreshTimer = some at_ → old.entry = some l → old.state ≠ .unbound → old.manual = false →
    (checked ↔ old.state = .ok ∧ l.echoStream ≠ none ∧ s.path.plantSilent = false) →
    (wrong ↔ old.echoed ≠ some old.commanded) →
    (checked → wrong → count = old.mismatch + 1) → (checked → ¬ wrong → count = 0) →
    (¬ checked → count = old.mismatch) →
    ∃ t, exec (.refreshExpiry i) s = .next t ∧
      (t.slotAt i).mismatch = count ∧ (t.slotAt i).echoed = none ∧
      (t.slotAt i).refreshTimer = (s.atExpiry at_).timer (100 * l.refresh) ∧
      (t.slotAt i).entry = old.entry ∧ (t.slotAt i).manual = false ∧
      (t.slotAt i).owner = old.owner ∧ t.commandPlaced i ∧
      (checked ∧ wrong ∧ 3 ≤ count ∨ s.loadsAtRest →
        (t.slotAt i).sequence = old.sequence + 1) ∧
      (¬ (checked ∧ wrong ∧ 3 ≤ count) → s.loadsAtRest →
        (t.slotAt i).commanded = old.commanded) ∧
      (checked → wrong → 3 ≤ count → (t.slotAt i).state = .faulted ∧
        (t.slotAt i).commanded = 0 ∧ (t.rowAt i).request = 0 ∧
        s.raises t .actuatorFault ∧ (s.atExpiry at_).faults t .actuatorFault i.val ∧
        (s.loadsAtRest → s.panelsFollow t) ∧
        ∀ x r u, l.kind = .compressor → l.place = .body x →
          (s.sectionAt x).compressor = some r → r.state = .runMin ∨ r.state = .run →
          (t.sectionAt x).compressor = some u → u.state = .offLocked ∧ u.lock = .long) ∧
      (¬ (checked ∧ wrong ∧ 3 ≤ count) → (t.slotAt i).state = old.state) ∧
      (∀ o, o ≠ i → (t.slotAt o).entry = (s.slotAt o).entry ∧
        (t.slotAt o).state = (s.slotAt o).state ∧ (t.slotAt o).manual = (s.slotAt o).manual ∧
        (t.slotAt o).mismatch = (s.slotAt o).mismatch ∧ (t.slotAt o).owner = (s.slotAt o).owner) ∧
      s.callsKept t ∧ AgreeExcept settledParts (s.atExpiry at_) t

/-- ECHO_FRAME of the slot's echo stream sets the echoed level to the level carried, whatever the
slot's state and MANUAL flag (R46). -/
def Obligations.EchoIsRecorded : Prop :=
  ∀ (i : Fin 32) (f : Frame) (l : LoadEntry) (level : Byte) (rest : List Byte) (s : State),
    s.running = true → (s.slotAt i).entry = some l → (s.slotAt i).state ≠ .unbound →
    l.echoStream = some f.stream → f.kind = .state → f.payload = level :: rest →
    exec (.echoFrame i f) s = .next ((s.taken (.echoFrame i f)).setSlot i
      { s.slotAt i with echoed := some level.toNat })

/-! ## Overrides -/

/-- SET from the console of a kind whose target is enabled: a new key joins a list of fewer than 8 entries,
and a key whose entry is the console's is replaced, at the end of the list; value and lifetime are limited
by the ranges of R110, and the targets listed and enabled are those of R110 and R111, each spelled out; the
revision rises by one, the status frames are sent, the flags of CLIMATE_OFF and CAB_HEAT_MAX are set, and
the owner of the place reached acts (R110, R111, R114, R118 to R125). -/
def Obligations.SetEntersTheList : Prop :=
  (∀ (s : State) (k : OverrideKind) (g : Target), (s.targetEnabled k g = true ↔ s.hasTarget k g) ∧
    (k.admits g = true ↔ listedTarget g k)) ∧
  (∀ v : Int, overrideValue .setpointOffset v = max (-300) (min 300 v) ∧
    overrideValue .fanLevel v = max 0 (min 100 v) ∧
    ∀ k, k ≠ .setpointOffset → k ≠ .fanLevel → overrideValue k v = 0) ∧
  (∀ (k : OverrideKind) (g : Target) (asked : Nat) (limits : Option (Nat × Nat)),
    limits = (match k with
      | .setpointOffset => if g = .zone 0 then none else some (60, 240)
      | .fanLevel => some (30, 120)
      | .recirc => some (10, 10)
      | .defrostNow => some (15, 15)
      | .climateOff => none
      | .curtainOff => some (60, 480)
      | .cabHeatMax => some (20, 30)) →
    overrideLifetime k g asked = limits.map fun x => if asked = 0 then x.1 else min asked x.2) ∧
  ∀ (ck ct : Byte) (value duration : BitVec 16) (k : OverrideKind) (g : Target) (s : State)
    (new : OverrideEntry), s.running = true → overrideKindOf ck = some k → targetOf ct = some g →
    s.targetEnabled k g = true →
    new = { kind := k, target := g, origin := .console, value := overrideValue k value.toInt,
            expiry := (overrideLifetime k g duration.toNat).bind fun m => s.timer (60000 * m) } →
    (s.override.find k g = none → s.override.entries.length < 8 →
      ∃ t, exec (.set ck ct value duration) s = .next t ∧
        t.override.entries = s.override.entries ++ [new] ∧
        t.override.revision = s.override.revision + 1 ∧ t.override.lastResult = .accepted ∧
        s.statusSent t ∧
        (k = .climateOff → ∀ z, z ≠ 0 → (t.zoneAt z).climateOff = true) ∧
        (k = .cabHeatMax → (t.zoneAt 0).heatMax = true) ∧
        s.overridden t [(k, g)] true ∧
        AgreeExcept ([.overrides, .zones, .panels] ++ settledParts)
          (s.taken (.set ck ct value duration)) t) ∧
    (∀ x, s.override.find k g = some x → x.origin = .console →
      ∃ t, exec (.set ck ct value duration) s = .next t ∧
        t.override.entries =
          s.override.entries.filter (fun y => !(y.kind == k && y.target == g)) ++ [new] ∧
        t.override.revision = s.override.revision + 1 ∧ t.override.lastResult = .replaced ∧
        s.statusSent t ∧
        (k = .climateOff → ∀ z, z ≠ 0 → (t.zoneAt z).climateOff = true) ∧
        (k = .cabHeatMax → (t.zoneAt 0).heatMax = true) ∧
        s.overridden t [(k, g)] true ∧
        AgreeExcept ([.overrides, .zones, .panels] ++ settledParts)
          (s.taken (.set ck ct value duration)) t)

/-- A refused action leaves the list and the revision as they are, writes its result, raises
OVERRIDE_REFUSED and sends the status frames: a SET of an undefined kind, of a target that is not
enabled, of a depot key or into a full list, and an undefined console action (R112, R114, R118). It acts on
no load (`State.loadsKept`; R66, R67). -/
def Obligations.RefusalsChangeNoEntry : Prop :=
  ∀ (ck ct : Byte) (value duration : BitVec 16) (c : Instr) (r : OverrideResult) (s : State),
    s.running = true →
    ((c = .undefinedConsoleAction ∧ r = .refusedInvalid) ∨
      (c = .set ck ct value duration ∧ r = .refusedInvalid ∧
        (overrideKindOf ck = none ∨ targetOf ct = none)) ∨
      (∃ k g, c = .set ck ct value duration ∧ overrideKindOf ck = some k ∧
        targetOf ct = some g ∧
        ((s.targetEnabled k g = false ∧ r = .refusedInvalid) ∨
          (∃ x, s.targetEnabled k g = true ∧ s.override.find k g = some x ∧ x.origin = .depot ∧
            r = .refusedInvalid) ∨
          (s.targetEnabled k g = true ∧ s.override.find k g = none ∧
            8 ≤ s.override.entries.length ∧ r = .refusedFull)))) →
    ∃ t, exec c s = .next t ∧ t.override.entries = s.override.entries ∧
      t.override.revision = s.override.revision ∧ t.override.lastResult = r ∧
      s.raises t .overrideRefused ∧ s.statusSent t ∧ s.loadsKept t [] ∧
      AgreeExcept (.overrides :: settledParts) (s.taken c) t

/-- CANCEL and CANCEL_ALL from the console: a CANCEL of an undefined kind, or of a target that R110 does
not give its kind, is REFUSED_INVALID and leaves the list; an entry of the console's is removed with
CANCELLED and one revision, whether its target is enabled or not; a key without an entry is NOT_FOUND; a
depot entry stays; CANCEL_ALL removes every console entry and keeps the others in order (R115, R116, R118).
The owner of each place reached withdraws the effect (R119 to R124), and a CANCEL that removes nothing acts on
no load (`State.loadsKept`; R66, R67). -/
def Obligations.CancelLeavesTheList : Prop :=
  (∀ (ck ct : Byte) (s : State), s.running = true →
    overrideKindOf ck = none ∨ targetOf ct = none ∨
      (∃ k g, overrideKindOf ck = some k ∧ targetOf ct = some g ∧ k.admits g = false) →
    ∃ t, exec (.cancel ck ct) s = .next t ∧ t.override.entries = s.override.entries ∧
      t.override.revision = s.override.revision ∧ t.override.lastResult = .refusedInvalid ∧
      s.raises t .overrideRefused ∧ s.statusSent t ∧ s.loadsKept t [] ∧
      AgreeExcept (.overrides :: settledParts) (s.taken (.cancel ck ct)) t) ∧
  ∀ (ck ct : Byte) (k : OverrideKind) (g : Target) (s : State), s.running = true →
    overrideKindOf ck = some k → targetOf ct = some g → k.admits g = true →
    (∀ x, s.override.find k g = some x → x.origin = .console →
      ∃ t, exec (.cancel ck ct) s = .next t ∧
        t.override.entries = s.override.entries.filter (fun y => !(y.kind == k && y.target == g)) ∧
        t.override.revision = s.override.revision + 1 ∧ t.override.lastResult = .cancelled ∧
        s.statusSent t ∧
        (k = .climateOff → ∀ z, z ≠ 0 → (t.zoneAt z).climateOff = false) ∧
        (k = .cabHeatMax → (t.zoneAt 0).heatMax = false) ∧ s.overridden t [(k, g)] false ∧
        AgreeExcept ([.overrides, .zones, .panels] ++ settledParts) (s.taken (.cancel ck ct)) t) ∧
    (s.override.find k g = none ∨ (∃ x, s.override.find k g = some x ∧ x.origin = .depot) →
      ∃ t, exec (.cancel ck ct) s = .next t ∧ t.override.entries = s.override.entries ∧
        t.override.revision = s.override.revision ∧
        t.override.lastResult =
          (if s.override.find k g = none then .notFound else .refusedInvalid) ∧
        s.statusSent t ∧ s.loadsKept t [] ∧
        AgreeExcept (.overrides :: settledParts) (s.taken (.cancel ck ct)) t) ∧
    ∃ t, exec .cancelAll s = .next t ∧
      t.override.entries = s.override.entries.filter (fun x => x.origin ≠ .console) ∧
      ((∃ x ∈ s.override.entries, x.origin = .console) →
        t.override.revision = s.override.revision + 1 ∧ t.override.lastResult = .cancelled) ∧
      ((∀ x ∈ s.override.entries, x.origin ≠ .console) →
        t.override.revision = s.override.revision ∧ t.override.lastResult = .notFound) ∧
      s.statusSent t ∧
      s.overridden t ((s.override.entries.filter fun x => x.origin = .console).map fun x =>
        (x.kind, x.target)) false ∧
      AgreeExcept ([.overrides, .zones, .panels] ++ settledParts) (s.taken .cancelAll) t

/-- OVERRIDE_EXPIRY removes the entry of the key, raises OVERRIDE_EXPIRED, increases the revision and
sends the status frames; the last result is kept, and the owner of the place reached withdraws the effect
(R117, R119 to R124). -/
def Obligations.OverrideExpires : Prop :=
  ∀ (k : OverrideKind) (g : Target) (x : OverrideEntry) (at_ : PartTime) (s : State),
    s.running = true → s.override.find k g = some x → x.expiry = some at_ →
    ∃ t, exec (.overrideExpiry k.code g.code) s = .next t ∧
      t.override.entries = s.override.entries.filter (fun y => !(y.kind == k && y.target == g)) ∧
      t.override.revision = s.override.revision + 1 ∧
      t.override.lastResult = s.override.lastResult ∧ s.raises t .overrideExpired ∧
      (s.atExpiry at_).statusSent t ∧
      (k = .climateOff → ∀ z, z ≠ 0 → (t.zoneAt z).climateOff = false) ∧
      (k = .cabHeatMax → (t.zoneAt 0).heatMax = false) ∧
      (s.atExpiry at_).overridden t [(k, g)] false ∧
      AgreeExcept ([.overrides, .zones, .panels] ++ settledParts) (s.atExpiry at_) t

/-- STATUS_TIMER_EXPIRY sends the status frames with the list as it stands: the header frame, with the
number of entries, the revision and the last result, and for each entry a frame with its index, kind,
target, value, origin and remaining minutes, each on its way where the queue admits it (R125, R126, R157,
R195). -/
def Obligations.StatusTimerSends : Prop :=
  ∀ (at_ : PartTime) (s : State), s.running = true → s.override.statusTimer = some at_ →
    ∃ t, exec .statusTimerExpiry s = .next t ∧ t.override.entries = s.override.entries ∧
      t.override.revision = s.override.revision ∧
      t.override.lastResult = s.override.lastResult ∧ (s.atExpiry at_).statusSent t ∧
      AgreeExcept (.overrides :: quietParts) (s.atExpiry at_) t

/-! ## Notices and faults -/

/-- ACK_NOTICES clears the statuses of the sources enabled for CAB alone, and of the edge sources among
them the raws, and re-examines the destinations: one that stays RAISED sends a NOTICE frame; while service
mode is on without leave to clear it is refused and changes nothing (R169 to R171). -/
def Obligations.AcknowledgementClears : Prop :=
  ∀ s : State, s.running = true →
    (∀ x, s.agent.service = some x → x.allowClears = false →
      exec .ackNotices s = .next (s.taken .ackNotices)) ∧
    ((∀ x, s.agent.service = some x → x.allowClears = true) → s.levelsFollow →
      ∃ t, exec .ackNotices s = .next t ∧
        (∀ x : Source, x ≠ .portOverrun →
          t.notice.status x = (s.notice.status x &&
            !(s.notice.entry.cabMask &&& x.bit != 0 && s.notice.entry.depotMask &&& x.bit == 0)) ∧
          (x ∈ levelSources → t.notice.raw x = s.notice.raw x) ∧
          (x ∉ levelSources → t.notice.raw x = (s.notice.raw x &&
            !(s.notice.entry.cabMask &&& x.bit != 0 && s.notice.entry.depotMask &&& x.bit == 0)))) ∧
        (s.path.vehicleQueue.length < 23 →
          (t.notice.dest .cab).raised =
            ((s.notice.dest .cab).raised && t.notice.shown .cab != 0) ∧
          (t.notice.dest .depot).raised =
            ((s.notice.dest .depot).raised && t.notice.shown .depot != 0) ∧
          ∀ d, (t.notice.dest d).raised = true → s.noticeSent t d) ∧
        AgreeExcept quietParts (s.taken .ackNotices) t)

/-- Once the fault record holds a fault, its code, index, time and supply state stand after every
command but POWER_ON, LINE_RESET and the classification of a FAULT_CLEAR request (R174, R175). -/
def Obligations.FaultRecordStands : Prop :=
  ∀ (c : Instr) (s t : State) (r : FaultRec), exec c s = .next t → s.notice.record = some r →
    (∀ straps, c ≠ .powerOn straps) → (∀ straps, c ≠ .lineReset straps) →
    (∀ f rest, s.path.vehicleRx = f :: rest → f.kind = .manage →
      f.stream = manageStream s.path.node → c = .classifyFrame .vehicle → u8At f.payload 0 ≠ 0x13) →
    ∃ further, t.notice.record = some { r with further := r.further || further }

/-! ## Management -/

/-- CLASSIFY_FRAME of a management request. An open session ends broken, but for STATUS, READ, LOAD_DATA and
LOAD_END, which leave it open (R176, R183). READ_CAUSE answers the cause and clears it (R189). SERVICE_ENTER
begins service mode with its option, or finds it on (R185). An undefined opcode is BAD_OPCODE, and a payload
shorter than its parameters BAD_RANGE (R176; of LOAD_DATA and OVERRIDE, log entry 21). STORE acts by R184
and RESTART by R190. IDENTIFY, READ and STATUS change nothing else and answer by R178, R179, R180 and R194,
STATUS with the bytes of every page; that the entry of SUPPLY has a part 1 is the model's choice (log entry
36). Where the session that breaks has completed no entry, or hands over a segment apart from what the
request reads and writes, FORCE_CHANNEL and RELEASE_CHANNEL act by R137, R138 and R140, MANUAL_TAKE and
MANUAL_RELEASE by R50, R159 and R187, ACTUATOR_CLEAR by R49 (a cleared slot's request is formed again, and
its level follows the grant of the pass; an OK slot loses its mismatch count alone), NOTICE_CLEAR by R168,
R169 and R171, NOTICE_TEST by R167 and R172, FAULT_READ and FAULT_CLEAR by R175, SERVICE_EXIT by R186, and
OVERRIDE by R113 to R125, with the DEPOT's right to replace and to remove every entry, and with the refusals
by kind, target and room. While a restart is pending every request is BUSY. Each restarts the inactivity
timer, and its reply is on its way where the queue admits it (R157, R176); a result other than OK carries no
data (R176, R194), LOAD_DATA's BUSY and BAD_RANGE too (log entry 40). A request that acts on no slot leaves the
loads (`State.loadsKept`), and one that names a slot leaves the others' records (`State.onlySlot`; R49, R50,
R66, R67). That the reply is offered before the NOTICE frames of its event, but after the status frames of an
OVERRIDE and the notices of a NOTICE_CLEAR, is the model's choice (log entry 11), and so is that a NOTICE_CLEAR
that breaks a session clears after the break has raised (log entry 12). -/
def Obligations.RequestsAreAnswered : Prop :=
  (∀ (f : Frame) (rest : List Frame) (s : State), s.running = true →
    s.path.vehicleRx = f :: rest → f.kind = .manage → f.stream = manageStream s.path.node →
    s.agent.restartPending = true →
    (u8At f.payload 0 ∈ [3, 4, 6, 7] →
      s.handles rest [] fun t => s.onlyReplied t f [byteAt f.payload 0, 1]) ∧
    (u8At f.payload 0 ∉ [3, 4, 6, 7] →
      s.handles rest s.brokenParts fun t => s.brokenReplied t f [byteAt f.payload 0, 1])) ∧
  ∀ (f : Frame) (rest : List Frame) (s : State), s.takesRequest f rest →
    (u8At f.payload 0 = 2 → s.handles rest s.brokenParts fun t =>
      t.agent = { s.agentBroken with cause := .none } ∧
        s.replied t f [2, 0, s.agent.cause.code]) ∧
    (∀ (allow : Byte) (more : List Byte), f.payload = 9 :: allow :: more →
      (s.agent.service = none → s.handles rest s.brokenParts fun t =>
        t.agent = { s.agentBroken with
          service := some { allowClears := decide (allow ≠ 0), timer := s.timer 1800000 } } ∧
        t.notice.raw .serviceMode = true ∧ s.replied t f [9, 0]) ∧
      (s.agent.service ≠ none → s.handles rest s.brokenParts fun t => s.brokenReplied t f [9, 5])) ∧
    (u8At f.payload 0 = 0 ∨ 0x15 < u8At f.payload 0 →
      s.handles rest s.brokenParts fun t => s.brokenReplied t f [byteAt f.payload 0, 6]) ∧
    (∀ n, parameterBytes (u8At f.payload 0) = some n → f.payload.length ≤ n →
      (u8At f.payload 0 ∈ [3, 4, 6, 7] →
        s.handles rest [] fun t => s.onlyReplied t f [byteAt f.payload 0, 4]) ∧
      (u8At f.payload 0 ∉ [3, 4, 6, 7] →
        s.handles rest s.brokenParts fun t => s.brokenReplied t f [byteAt f.payload 0, 4])) ∧
    (u8At f.payload 0 = 8 →
      (s.agent.storeOp ≠ none → s.handles rest s.brokenParts fun t => s.brokenReplied t f [8, 1]) ∧
      (s.agent.storeOp = none → s.handles rest s.brokenParts fun t =>
        t.agent = { s.agentBroken with
          modified := 0
          storeOp := some { contents := s.agent.contents, sequence := f.sequence,
                            limit := s.partTime + 400 } })) ∧
    (u8At f.payload 0 = 0x15 →
      (s.agent.storeOp ≠ none → s.handles rest s.brokenParts fun t => s.brokenReplied t f [0x15, 1]) ∧
      (s.agent.storeOp = none → s.path.vehicleQueue.length < 24 →
        s.handles rest s.brokenParts fun t =>
          t.agent = { s.agentBroken with restartPending := true } ∧
            { frame := makeFrame (replyStream s.path.node) .reply f.sequence [0x15, 0]
              restartReply := true } ∈ t.path.outgoing) ∧
      (s.agent.storeOp = none → 24 ≤ s.path.vehicleQueue.length →
        ∃ t, exec (.classifyFrame .vehicle) s = .next t ∧ t.agent.cause = .restart ∧
          t.partTime = 0 ∧ t.agent.contents = s.agent.contents)) ∧
    (u8At f.payload 0 = 1 → s.handles rest s.brokenParts fun t =>
      s.brokenReplied t f [1, 0, 0x5C, 0x24, 3, s.path.node.zeroExtend 8]) ∧
    (∀ (page : Byte) (more : List Byte), f.payload = 3 :: page :: more →
      (8 < page.toNat → s.handles rest [] fun t => s.onlyReplied t f [3, 4]) ∧
      (page.toNat ≤ 8 → s.handles rest [] fun t =>
        s.onlyReplied t f (3 :: 0 :: page :: s.statusBytes page.toNat))) ∧
    (∀ (seg index part : Byte) (more : List Byte), f.payload = 4 :: seg :: index :: part :: more →
      (11 ≤ seg.toNat → s.handles rest [] fun t => s.onlyReplied t f [4, 3]) ∧
      ∀ g : SegmentId, g.val = seg.toNat →
        (entryCount g ≤ index.toNat → s.handles rest [] fun t => s.onlyReplied t f [4, 4] ∧
          s.faults t .tableRange g.val) ∧
        (index.toNat < entryCount g → entrySize g ≤ 12 * part.toNat →
          s.handles rest [] fun t => s.onlyReplied t f [4, 4]) ∧
        (index.toNat < entryCount g → 12 * part.toNat < entrySize g →
          s.handles rest [] fun t => s.onlyReplied t f (4 :: 0 ::
            ((entryAt (s.agent.contents.get g) index.toNat).drop (12 * part.toNat)).take 12))) ∧
    (s.sessionIn apartSegments →
      (∀ (c hi lo : Byte) (more : List Byte), f.payload = 0x0B :: c :: hi :: lo :: more →
        (48 ≤ c.toNat → s.handles rest s.brokenParts fun t => s.brokenReplied t f [0x0B, 4]) ∧
        ∀ k : Fin 48, k.val = c.toNat →
          (s.agent.service = none ∨ (s.channelAt k).entry.quantity = none →
            s.handles rest s.brokenParts fun t => s.brokenReplied t f [0x0B, 5]) ∧
          (s.agent.service ≠ none → (s.channelAt k).entry.quantity ≠ none →
            s.handles rest (s.brokenParts ++ [.channels]) fun t => s.brokenReplied t f [0x0B, 0] ∧
              t.channelAt k = { s.channelAt k with
                quality := .forced, slewing := false, plausibleCount := 0, staleTimer := none
                forced := some (clamp (hi ++ lo).toInt (s.channelAt k).entry.low
                  (s.channelAt k).entry.high) } ∧
              (∀ o, o ≠ k → t.channelAt o = s.channelAt o) ∧
              (k ∈ s.outdoorSources → s.outdoorFollows t) ∧
              (k ∉ s.outdoorSources → s.outdoorKept t))) ∧
      (∀ (c : Byte) (more : List Byte), f.payload = 0x0C :: c :: more →
        (48 ≤ c.toNat → s.handles rest s.brokenParts fun t => s.brokenReplied t f [0x0C, 4]) ∧
        ∀ k : Fin 48, k.val = c.toNat →
          ((s.channelAt k).quality ≠ .forced →
            s.handles rest s.brokenParts fun t => s.brokenReplied t f [0x0C, 5]) ∧
          ((s.channelAt k).quality = .forced →
            s.handles rest (s.brokenParts ++ [.channels]) fun t => s.brokenReplied t f [0x0C, 0] ∧
              t.channelAt k = { s.channelAt k with
                quality := .absent, held := none, forced := none, slewing := false
                plausibleCount := 0, staleTimer := none } ∧
              (∀ o, o ≠ k → t.channelAt o = s.channelAt o) ∧
              (k ∈ s.outdoorSources → s.outdoorFollows t) ∧
              (k ∉ s.outdoorSources → s.outdoorKept t))) ∧
      (∀ (c : Byte) (more : List Byte) (refused : Fin 32 → Prop), f.payload = 0x0D :: c :: more →
        (∀ i, refused i ↔ s.agent.service = none ∨ s.budget.state ≠ .live ∨
          (s.slotAt i).state ≠ .ok ∨ (s.slotAt i).entry = none ∨
          ∃ l ∈ (s.slotAt i).entry, l.kind = .compressor ∨ l.kind = .damper) →
        (32 ≤ c.toNat → s.handles rest s.brokenParts fun t => s.brokenReplied t f [0x0D, 4]) ∧
        ∀ i : Fin 32, i.val = c.toNat →
          (refused i → s.handles rest s.brokenParts fun t => s.brokenReplied t f [0x0D, 5]) ∧
          (¬ refused i → (s.slotAt i).manual = true →
            s.handles rest s.brokenParts fun t => s.brokenReplied t f [0x0D, 0]) ∧
          ∀ l ∈ (s.slotAt i).entry, ¬ refused i → (s.slotAt i).manual = false →
            (s.poolBudget l.pool < l.rated + s.reservedPower i l.pool →
              s.handles rest s.brokenParts fun t => s.brokenReplied t f [0x0D, 7]) ∧
            (l.rated + s.reservedPower i l.pool ≤ s.poolBudget l.pool → s.loadsSettled →
              s.handles rest (.slots :: s.brokenParts) fun t => s.brokenReplied t f [0x0D, 0] ∧
                (t.slotAt i).state = .ok ∧ (t.slotAt i).mismatch = (s.slotAt i).mismatch ∧
                s.onlySlot t i ∧ t.levelsGiven ∧
                (t.slotAt i).manual = true ∧ (t.slotAt i).commanded = 0 ∧
                (t.slotAt i).refreshTimer = none ∧ (t.rowAt i).request = l.rated ∧
                (t.rowAt i).cls = 0 ∧ (∀ w ∈ t.path.commandSet, w.slot ≠ i) ∧
                t.notice.raw .manualActive = true)) ∧
      (∀ (c : Byte) (more : List Byte), f.payload = 0x0E :: c :: more →
        (32 ≤ c.toNat → s.handles rest s.brokenParts fun t => s.brokenReplied t f [0x0E, 4]) ∧
        ∀ i : Fin 32, i.val = c.toNat →
          ((s.slotAt i).manual = false →
            s.handles rest s.brokenParts fun t => s.brokenReplied t f [0x0E, 5]) ∧
          ((s.slotAt i).manual = true → s.loadsSettled →
            s.handles rest (.slots :: s.brokenParts) fun t => s.brokenReplied t f [0x0E, 0] ∧
              (t.slotAt i).state = (s.slotAt i).state ∧ s.onlySlot t i ∧ t.levelsGiven ∧
              s.slotReleased t i)) ∧
      (∀ (c : Byte) (more : List Byte), f.payload = 0x0F :: c :: more →
        (32 ≤ c.toNat → s.handles rest s.brokenParts fun t => s.brokenReplied t f [0x0F, 4]) ∧
        ∀ i : Fin 32, i.val = c.toNat →
          ((s.slotAt i).state = .unbound →
            s.handles rest s.brokenParts fun t => s.brokenReplied t f [0x0F, 5]) ∧
          ((s.slotAt i).state ≠ .unbound → s.loadsSettled →
            s.handles rest (.slots :: s.brokenParts) fun t => s.brokenReplied t f [0x0F, 0] ∧
              (t.slotAt i).state = .ok ∧ (t.slotAt i).mismatch = 0 ∧
              (t.slotAt i).manual = (s.slotAt i).manual ∧ s.onlySlot t i ∧
              (s.loadsAtRest → s.panelsFollow t) ∧
              ((s.slotAt i).state = .faulted → t.levelsGiven ∧
                (t.slotAt i).echoed = none ∧
                ((∀ l ∈ (s.slotAt i).entry, l.kind ≠ .compressor) →
                  (s.slotAt i).asks.cooling = none → t.requestFormed i)) ∧
              ((s.slotAt i).state = .ok → s.loadsAtRest →
                t.actuator = (s.setSlot i { s.slotAt i with mismatch := 0 }).actuator ∧
                (∀ p ∈ [Part.rows, .limits], p.same s t) ∧ s.plantLineKept t))) ∧
      (∀ (a b c : Byte) (more : List Byte) (named : Source → Bool), s.sessionIn pendingSegments →
        f.payload = 0x10 :: a :: b :: c :: more →
        named = (fun x => ((c ++ b ++ a : BitVec 24) &&& x.bit) != 0) →
        (∀ x, s.agent.service = some x → x.allowClears = false →
          s.handles rest s.brokenParts fun t => s.brokenReplied t f [0x10, 2] ∧
            (s.agent.session = none → s.levelsFollow → s.loadsAtRest →
              s.path.vehicleQueue.length < 24 → t.notice = s.notice)) ∧
        ((∀ x, s.agent.service = some x → x.allowClears = true) → s.levelsFollow → s.loadsAtRest →
          s.handles rest s.brokenParts fun t =>
            t.agent = s.agentBroken ∧
            (∀ x : Source, x ≠ .portOverrun →
              s.agent.session = none ∨ x ≠ .loadBroken ∨ named x = true →
              t.notice.status x = (s.notice.status x && !named x) ∧
              (x ∈ levelSources → t.notice.raw x = s.notice.raw x) ∧
              (x ∉ levelSources → t.notice.raw x = (s.notice.raw x && !named x))) ∧
            (s.path.vehicleQueue.length < 22 →
              ownFrame (makeFrame (replyStream s.path.node) .reply f.sequence [0x10, 0]) ∈
                t.path.outgoing ∧
              (s.agent.session = none → ∀ d, (t.notice.dest d).raised =
                  ((s.notice.dest d).raised && t.notice.shown d != 0) ∧
                ((t.notice.dest d).raised = true → s.noticeSent t d))))) ∧
      (u8At f.payload 0 = 0x11 → s.handles rest s.brokenParts fun t => s.brokenReplied t f [0x11, 0] ∧
        s.raises t .test ∧
        ∀ d, (s.notice.dest d).raised = false → s.notice.raw .test = false →
          s.notice.status .test = false →
          s.notice.mask d &&& Source.bit .test ≠ 0 → s.path.vehicleQueue.length < 22 →
          s.noticeSent t d) ∧
      (u8At f.payload 0 = 0x13 → s.handles rest s.brokenParts fun t => s.brokenReplied t f [0x13, 0] ∧
        (s.loadsSettled → t.notice.record = none)) ∧
      (u8At f.payload 0 = 0x0A →
        (s.agent.service = none →
          s.handles rest s.brokenParts fun t => s.brokenReplied t f [0x0A, 5]) ∧
        (s.agent.service ≠ none → s.handles rest (s.brokenParts ++ [.channels, .slots]) fun t =>
          t.agent = { s.agentBroken with service := none } ∧ s.replied t f [0x0A, 0] ∧
          s.channelsReleased t ∧ (∀ i, (t.slotAt i).manual = false) ∧
          (s.loadsSettled → s.takesEnded t ∧ s.callsKept t ∧ s.changesCommanded t ∧
            ∀ i, (s.slotAt i).manual = true → s.slotReleased t i) ∧
          t.notice.raw .serviceMode = false ∧ t.notice.raw .manualActive = false)) ∧
      (u8At f.payload 0 = 0x12 → s.sessionIn pendingSegments →
        s.handles rest s.brokenParts fun t => s.brokenReplied t f (0x12 :: 0 ::
        match s.notice.record with
        | none => [0]
        | some r => [if r.further then 3 else 1, r.code.code, byteOf r.index] ++ bytes32 r.time ++
            [r.supply.code])) ∧
      ∀ (a ck ct v1 v2 d1 d2 : Byte) (more : List Byte),
        s.sessionIn [SegmentId.streams, SegmentId.schedule, SegmentId.doors, SegmentId.port] →
        f.payload = 0x14 :: a :: ck :: ct :: v1 :: v2 :: d1 :: d2 :: more →
        s.handles rest (s.brokenParts ++ [.overrides, .zones, .panels, .slots]) fun t =>
          t.agent = s.agentBroken ∧ s.statusSent t ∧
          (s.path.vehicleQueue.length + t.override.entries.length + 1 < 24 →
            ownFrame (makeFrame (replyStream s.path.node) .reply f.sequence
              [0x14, 0, t.override.lastResult.code, t.override.revision,
                byteOf t.override.entries.length]) ∈ t.path.outgoing) ∧
          (2 < a.toNat → s.overrideStands t .refusedInvalid) ∧
          (a = 2 → t.override.entries = [] ∧
            t.override.revision = s.override.revision + (if s.override.entries = [] then 0 else 1) ∧
            t.override.lastResult = (if s.override.entries = [] then .notFound else .cancelled) ∧
            s.overridden t (s.override.entries.map fun x => (x.kind, x.target)) false) ∧
          (a.toNat < 2 → overrideKindOf ck = none ∨ targetOf ct = none →
            s.overrideStands t .refusedInvalid) ∧
          ∀ k g, overrideKindOf ck = some k → targetOf ct = some g →
            (a = 1 → k.admits g = false → s.overrideStands t .refusedInvalid) ∧
            (a = 1 → k.admits g = true → s.override.find k g = none →
              s.overrideStands t .notFound) ∧
            (a = 0 → s.targetEnabled k g = false → s.overrideStands t .refusedInvalid) ∧
            (a = 0 → s.targetEnabled k g = true → s.override.find k g = none →
              8 ≤ s.override.entries.length → s.overrideStands t .refusedFull) ∧
            (a = 1 → s.override.find k g ≠ none → k.admits g = true →
              t.override.entries =
                s.override.entries.filter (fun y => !(y.kind == k && y.target == g)) ∧
              t.override.revision = s.override.revision + 1 ∧ t.override.lastResult = .cancelled ∧
              s.overridden t [(k, g)] false) ∧
            (a = 0 → s.targetEnabled k g = true →
              s.override.find k g ≠ none ∨ s.override.entries.length < 8 →
              t.override.entries =
                s.override.entries.filter (fun y => !(y.kind == k && y.target == g)) ++
                  [{ kind := k, target := g, origin := .depot
                     value := overrideValue k (v1 ++ v2).toInt
                     expiry := (overrideLifetime k g (d1 ++ d2).toNat).bind fun m =>
                       s.timer (60000 * m) }] ∧
              t.override.revision = s.override.revision + 1 ∧
              t.override.lastResult =
                (if s.override.find k g = none then .accepted else .replaced) ∧
              s.overridden t [(k, g)] true))

/-- Load sessions. LOAD_BEGIN opens a session, or is refused by the store, the segment, the access, the
index or the mode; a session that was open ends broken first (R176, R179, R181). LOAD_DATA joins a part,
completes an entry, or discards the partial entry, by the table of R182, which also lets a part fill the
buffer without completing the entry (log entry 31); the cursor and the part in the reply that ends a STOP
session are 0 (log entry 32), and a LOAD_DATA that is not answered OK is answered without data (log entry 40).
LOAD_DATA and LOAD_END without a session are BAD_STATE, and LOAD_END ends an
open one normally (R183). SESSION_TIMER_EXPIRY and every request but LOAD_DATA, LOAD_END, READ and STATUS
end it broken, with LOAD_BROKEN raised and the contents kept (R176, R183); a NOTICE entry is adopted before
that raise (log entry 24). At each end a segment with a completed entry is marked modified and handed to its
owner, who adopts it in the event or holds it pending (R9, R24, R51, R55, R89, R91, R106, R141, R150, R151,
R172, R183), with the bounds of an unused channel unchecked (log entry 8) and the stream of a STREAMS entry cut
to 12 bits (log entry 18). But for a LOADS or SUPPLY hand-over the loads are left (`State.loadsKept`; R66,
R67). A reply is offered before the NOTICE frames of its event, which is the model's choice (log entry 11). -/
def Obligations.SessionBreaks : Prop :=
  (∀ (x : Session) (at_ : PartTime) (s : State), s.running = true → s.agent.session = some x →
    x.timer = some at_ →
    ∃ t, exec .sessionTimerExpiry s = .next t ∧ s.raises t .loadBroken ∧
      s.sessionEnds t x s.agent.contents s.agent.service ∧ t.partTime = s.moment at_ ∧
      s.loadsKept t (handedParts x.segment) ∧
      (x.completed = 0 → s.loadsKept t [] ∧
        AgreeExcept (.agent :: settledParts) (s.atExpiry at_) t) ∧
      AgreeExcept (.agent :: handedParts x.segment ++ settledParts) (s.atExpiry at_) t) ∧
  (∀ (f : Frame) (rest : List Frame) (x : Session) (op : Nat) (s : State), s.takesRequest f rest →
    s.agent.session = some x → op = u8At f.payload 0 → op ∉ [3, 4, 6, 7] →
    ¬ (op = 0x15 ∧ s.agent.storeOp = none ∧ 24 ≤ s.path.vehicleQueue.length) →
    ∃ t, exec (.classifyFrame .vehicle) s = .next t ∧ t.path.vehicleRx = rest ∧
      (op ≠ 0x10 → s.raises t .loadBroken) ∧
      (op ≠ 5 → t.agent.session = none) ∧ t.agent.contents = s.agent.contents ∧
      (op ≠ 8 → t.agent.modified = s.agentBroken.modified) ∧
      (x.completed ≠ 0 → op ∉ [0x0A, 0x0B, 0x0C, 0x0D, 0x0E, 0x0F, 0x14] ∨
          x.segment ∈ [SegmentId.streams, SegmentId.schedule, SegmentId.doors, SegmentId.notice,
            SegmentId.port] →
        s.handedOver t x.segment)) ∧
  (∀ (f : Frame) (rest : List Frame) (seg index mode : Byte) (more : List Byte) (s : State),
    s.takesRequest f rest → f.payload = 5 :: seg :: index :: mode :: more →
    (s.agent.storeOp ≠ none → s.handles rest s.brokenParts fun t => s.brokenReplied t f [5, 1]) ∧
    (s.agent.storeOp = none → 11 ≤ seg.toNat →
      s.handles rest s.brokenParts fun t => s.brokenReplied t f [5, 3]) ∧
    ∀ g : SegmentId, g.val = seg.toNat → s.agent.storeOp = none →
      (openAccess g = false → s.agent.service = none →
        s.handles rest s.brokenParts fun t => s.brokenReplied t f [5, 2]) ∧
      (openAccess g = true ∨ s.agent.service ≠ none →
        (entryCount g ≤ index.toNat → s.handles rest s.brokenParts fun t => s.brokenReplied t f [5, 4] ∧
          (s.sessionIn pendingSegments → s.faults t .tableRange g.val)) ∧
        (index.toNat < entryCount g → 1 < mode.toNat →
          s.handles rest s.brokenParts fun t => s.brokenReplied t f [5, 4]) ∧
        (index.toNat < entryCount g → mode.toNat ≤ 1 → s.handles rest s.brokenParts fun t =>
          t.agent = { s.agentBroken with
            session := some
              { segment := g, mode := if mode.toNat = 0 then .wrap else .stop
                cursor := index.toNat, expected := 0, buffer := [], completed := 0
                timer := s.timer 2000 } } ∧
          s.replied t f [5, 0, 1, index]))) ∧
  (∀ (f : Frame) (rest : List Frame) (part : Byte) (data : List Byte) (s : State),
    s.takesRequest f rest → s.agent.session = none → f.payload = 6 :: part :: data →
    s.handles rest [] fun t => s.onlyReplied t f [6, 5]) ∧
  (∀ (f : Frame) (rest : List Frame) (part : Byte) (data : List Byte) (x : Session) (s : State)
    (bs : List Byte) (size : Nat) (contents : Contents) (dropped : State → Prop),
    s.takesRequest f rest → s.agent.session = some x → f.payload = 6 :: part :: data →
    bs = x.buffer ++ data → size = entrySize x.segment →
    contents = s.agent.contents.modify x.segment (fun l => l.set x.cursor bs) →
    dropped = (fun t => t.agent = { s.agent with
      service := s.serviceTouched
      session := some { x with buffer := [], expected := 0, timer := s.timer 2000 } }) →
    (part.toNat % 128 ≠ x.expected →
      s.handles rest [] fun t => dropped t ∧ s.replied t f [6, 5]) ∧
    (part.toNat % 128 = x.expected → data = [] ∨ size < bs.length →
      s.handles rest [] fun t => dropped t ∧ s.replied t f [6, 4]) ∧
    (part.toNat % 128 = x.expected → data ≠ [] → bs.length ≤ size → part.toNat < 128 →
      s.handles rest [] fun t =>
        t.agent = { s.agent with
          service := s.serviceTouched
          session := some { x with
            buffer := bs, expected := x.expected + 1, timer := s.timer 2000 } } ∧
        s.replied t f [6, 0, 1, byteOf x.cursor, byteOf (x.expected + 1)]) ∧
    (part.toNat % 128 = x.expected → data ≠ [] → bs.length < size → 128 ≤ part.toNat →
      s.handles rest [] fun t => dropped t ∧ s.replied t f [6, 4]) ∧
    (part.toNat % 128 = x.expected → data ≠ [] → bs.length = size → 128 ≤ part.toNat →
      (x.cursor + 1 < entryCount x.segment ∨ x.mode = .wrap → ∀ cursor : Nat,
        cursor = (if x.cursor + 1 < entryCount x.segment then x.cursor + 1 else 0) →
        s.handles rest [] fun t =>
          t.agent = { s.agent with
            contents, service := s.serviceTouched
            session := some { x with
              buffer := [], expected := 0, cursor, completed := x.completed + 1
              timer := s.timer 2000 } } ∧
          s.replied t f [6, 0, 1, byteOf cursor, 0]) ∧
      (entryCount x.segment ≤ x.cursor + 1 → x.mode = .stop →
        s.handles rest (handedParts x.segment) fun t =>
          s.sessionEnds t { x with completed := x.completed + 1 } contents s.serviceTouched ∧
          s.replied t f [6, 0, 0, 0, 0]))) ∧
  ∀ (f : Frame) (rest : List Frame) (s : State), s.takesRequest f rest → u8At f.payload 0 = 7 →
    (s.agent.session = none → s.handles rest [] fun t => s.onlyReplied t f [7, 5]) ∧
    ∀ x, s.agent.session = some x → s.handles rest (handedParts x.segment) fun t =>
      s.sessionEnds t x s.agent.contents s.serviceTouched ∧ s.replied t f [7, 0]

/-- STORE_COMPLETION of a running operation: the copy taken at the request is in place, the operation
is idle, and the reply OK is on its way where the queue admits it (R184). -/
def Obligations.StoreCompletes : Prop :=
  ∀ (x : StoreOp) (s : State), s.running = true → s.agent.storeOp = some x →
    ∃ t, exec .storeCompletion s = .next t ∧
      t.agent = { s.agent with stored := .whole x.contents, storeOp := none } ∧
      (s.path.vehicleQueue.length < 24 → ownFrame (makeFrame (replyStream s.path.node) .reply
        x.sequence [8, 0]) ∈ t.path.outgoing) ∧
      AgreeExcept (.agent :: quietParts) s t

/-- INACTIVITY_EXPIRY ends service mode: every forced channel is ABSENT and the outdoor value follows, every
manual slot is released with its command placed and the frames of its guard gone, and the conditions
SERVICE_MODE and MANUAL_ACTIVE are false; the slots that were not manual, and the cooling calls, stand (R50,
R138 to R140, R159, R162, R186). -/
def Obligations.ServiceModeEnds : Prop :=
  ∀ (x : Service) (at_ : PartTime) (s : State), s.running = true → s.agent.service = some x →
    x.timer = some at_ →
    ∃ t, exec .inactivityExpiry s = .next t ∧ t.agent = { s.agent with service := none } ∧
      s.channelsReleased t ∧
      (s.loadsSettled → s.takesEnded t ∧ s.callsKept t ∧ s.changesCommanded t ∧
        ∀ i, (s.slotAt i).manual = true → s.slotReleased t i) ∧
      (∀ i, (t.slotAt i).manual = false) ∧ t.notice.raw .serviceMode = false ∧
      t.notice.raw .manualActive = false ∧
      AgreeExcept ([.agent, .channels] ++ settledParts) (s.atExpiry at_) t

/-! ## Invariants -/

/-- Every step keeps the bounds of the queues, of the command set, of the run count and of the override
list (R108, R109, R146, R157, R159 to R161). -/
def Obligations.StepKeepsTheBounds : Prop :=
  ∀ s t : State, s.path.bounded → s.override.lawful → step s = .next t →
    t.path.bounded ∧ t.override.lawful

/-- Every step keeps the bounds of every zone record (R18, R19, R22). -/
def Obligations.StepKeepsTheZonesBounded : Prop :=
  ∀ s t : State, (∀ z, (s.zoneAt z).bounded) → step s = .next t → ∀ z, (t.zoneAt z).bounded

/-- Every step keeps every grant at or below its request, and what a pool is granted within its budget
(R65, R66, R69). -/
def Obligations.StepKeepsTheBudgets : Prop :=
  ∀ s t : State, s.budget.granted → s.withinBudgets → step s = .next t →
    t.budget.granted ∧ t.withinBudgets

/-- Between events a running controller has every level raw at its condition and no idle transmitter
with a frame waiting: every step keeps this (R157, R161, R163, R164). -/
def Obligations.StepKeepsTheControllerAtRest : Prop :=
  ∀ s t : State, (s.running = true → s.atRest) → step s = .next t → t.running = true → t.atRest

/-- The reset state has every invariant (R4, R53, R65, R109, R147, R166; the state is the model's,
log entries 4 and 5). -/
def Obligations.ResetStateHasTheInvariants : Prop :=
  State.reset.path.bounded ∧ State.reset.override.lawful ∧
    (∀ z, (State.reset.zoneAt z).bounded) ∧ State.reset.budget.granted ∧
    State.reset.withinBudgets ∧ State.reset.atRest
end

