-- ==== Sys2Proof/Laws/State.lean ====
section
/-!
SUPPORT. What the updates of a record of the state give, field by field: every lemma holds by rfl, or
by the laws of `Table`.
-/

namespace Sys2Proof.Machine

variable (s : State)

@[simp] theorem State.setZone_pending (z : Fin 8) (r : ZoneRec) : (s.setZone z r).pending = s.pending := rfl
@[simp] theorem State.setZone_pins (z : Fin 8) (r : ZoneRec) : (s.setZone z r).pins = s.pins := rfl
@[simp] theorem State.setZone_partTime (z : Fin 8) (r : ZoneRec) : (s.setZone z r).partTime = s.partTime := rfl
@[simp] theorem State.setZone_path (z : Fin 8) (r : ZoneRec) : (s.setZone z r).path = s.path := rfl
@[simp] theorem State.setZone_classifier (z : Fin 8) (r : ZoneRec) : (s.setZone z r).classifier = s.classifier := rfl
@[simp] theorem State.setZone_sample (z : Fin 8) (r : ZoneRec) : (s.setZone z r).sample = s.sample := rfl
@[simp] theorem State.setZone_actuator (z : Fin 8) (r : ZoneRec) : (s.setZone z r).actuator = s.actuator := rfl
@[simp] theorem State.setZone_budget (z : Fin 8) (r : ZoneRec) : (s.setZone z r).budget = s.budget := rfl
@[simp] theorem State.setZone_door (z : Fin 8) (r : ZoneRec) : (s.setZone z r).door = s.door := rfl
@[simp] theorem State.setZone_glazing (z : Fin 8) (r : ZoneRec) : (s.setZone z r).glazing = s.glazing := rfl
@[simp] theorem State.setZone_override (z : Fin 8) (r : ZoneRec) : (s.setZone z r).override = s.override := rfl
@[simp] theorem State.setZone_notice (z : Fin 8) (r : ZoneRec) : (s.setZone z r).notice = s.notice := rfl
@[simp] theorem State.setZone_agent (z : Fin 8) (r : ZoneRec) : (s.setZone z r).agent = s.agent := rfl

@[simp] theorem State.setSlot_pending (i : Fin 32) (r : SlotRec) : (s.setSlot i r).pending = s.pending := rfl
@[simp] theorem State.setSlot_pins (i : Fin 32) (r : SlotRec) : (s.setSlot i r).pins = s.pins := rfl
@[simp] theorem State.setSlot_partTime (i : Fin 32) (r : SlotRec) : (s.setSlot i r).partTime = s.partTime := rfl
@[simp] theorem State.setSlot_path (i : Fin 32) (r : SlotRec) : (s.setSlot i r).path = s.path := rfl
@[simp] theorem State.setSlot_classifier (i : Fin 32) (r : SlotRec) : (s.setSlot i r).classifier = s.classifier := rfl
@[simp] theorem State.setSlot_sample (i : Fin 32) (r : SlotRec) : (s.setSlot i r).sample = s.sample := rfl
@[simp] theorem State.setSlot_zone (i : Fin 32) (r : SlotRec) : (s.setSlot i r).zone = s.zone := rfl
@[simp] theorem State.setSlot_budget (i : Fin 32) (r : SlotRec) : (s.setSlot i r).budget = s.budget := rfl
@[simp] theorem State.setSlot_door (i : Fin 32) (r : SlotRec) : (s.setSlot i r).door = s.door := rfl
@[simp] theorem State.setSlot_glazing (i : Fin 32) (r : SlotRec) : (s.setSlot i r).glazing = s.glazing := rfl
@[simp] theorem State.setSlot_override (i : Fin 32) (r : SlotRec) : (s.setSlot i r).override = s.override := rfl
@[simp] theorem State.setSlot_notice (i : Fin 32) (r : SlotRec) : (s.setSlot i r).notice = s.notice := rfl
@[simp] theorem State.setSlot_agent (i : Fin 32) (r : SlotRec) : (s.setSlot i r).agent = s.agent := rfl

@[simp] theorem State.setSection_pending (x : BodySection) (r : SectionRec) : (s.setSection x r).pending = s.pending := rfl
@[simp] theorem State.setSection_pins (x : BodySection) (r : SectionRec) : (s.setSection x r).pins = s.pins := rfl
@[simp] theorem State.setSection_partTime (x : BodySection) (r : SectionRec) : (s.setSection x r).partTime = s.partTime := rfl
@[simp] theorem State.setSection_path (x : BodySection) (r : SectionRec) : (s.setSection x r).path = s.path := rfl
@[simp] theorem State.setSection_classifier (x : BodySection) (r : SectionRec) : (s.setSection x r).classifier = s.classifier := rfl
@[simp] theorem State.setSection_sample (x : BodySection) (r : SectionRec) : (s.setSection x r).sample = s.sample := rfl
@[simp] theorem State.setSection_zone (x : BodySection) (r : SectionRec) : (s.setSection x r).zone = s.zone := rfl
@[simp] theorem State.setSection_budget (x : BodySection) (r : SectionRec) : (s.setSection x r).budget = s.budget := rfl
@[simp] theorem State.setSection_door (x : BodySection) (r : SectionRec) : (s.setSection x r).door = s.door := rfl
@[simp] theorem State.setSection_glazing (x : BodySection) (r : SectionRec) : (s.setSection x r).glazing = s.glazing := rfl
@[simp] theorem State.setSection_override (x : BodySection) (r : SectionRec) : (s.setSection x r).override = s.override := rfl
@[simp] theorem State.setSection_notice (x : BodySection) (r : SectionRec) : (s.setSection x r).notice = s.notice := rfl
@[simp] theorem State.setSection_agent (x : BodySection) (r : SectionRec) : (s.setSection x r).agent = s.agent := rfl

@[simp] theorem State.setRow_pending (i : Fin 32) (r : GrantRow) : (s.setRow i r).pending = s.pending := rfl
@[simp] theorem State.setRow_pins (i : Fin 32) (r : GrantRow) : (s.setRow i r).pins = s.pins := rfl
@[simp] theorem State.setRow_partTime (i : Fin 32) (r : GrantRow) : (s.setRow i r).partTime = s.partTime := rfl
@[simp] theorem State.setRow_path (i : Fin 32) (r : GrantRow) : (s.setRow i r).path = s.path := rfl
@[simp] theorem State.setRow_classifier (i : Fin 32) (r : GrantRow) : (s.setRow i r).classifier = s.classifier := rfl
@[simp] theorem State.setRow_sample (i : Fin 32) (r : GrantRow) : (s.setRow i r).sample = s.sample := rfl
@[simp] theorem State.setRow_zone (i : Fin 32) (r : GrantRow) : (s.setRow i r).zone = s.zone := rfl
@[simp] theorem State.setRow_actuator (i : Fin 32) (r : GrantRow) : (s.setRow i r).actuator = s.actuator := rfl
@[simp] theorem State.setRow_door (i : Fin 32) (r : GrantRow) : (s.setRow i r).door = s.door := rfl
@[simp] theorem State.setRow_glazing (i : Fin 32) (r : GrantRow) : (s.setRow i r).glazing = s.glazing := rfl
@[simp] theorem State.setRow_override (i : Fin 32) (r : GrantRow) : (s.setRow i r).override = s.override := rfl
@[simp] theorem State.setRow_notice (i : Fin 32) (r : GrantRow) : (s.setRow i r).notice = s.notice := rfl
@[simp] theorem State.setRow_agent (i : Fin 32) (r : GrantRow) : (s.setRow i r).agent = s.agent := rfl

@[simp] theorem State.setDoor_pending (d : Fin 8) (r : DoorRec) : (s.setDoor d r).pending = s.pending := rfl
@[simp] theorem State.setDoor_pins (d : Fin 8) (r : DoorRec) : (s.setDoor d r).pins = s.pins := rfl
@[simp] theorem State.setDoor_partTime (d : Fin 8) (r : DoorRec) : (s.setDoor d r).partTime = s.partTime := rfl
@[simp] theorem State.setDoor_path (d : Fin 8) (r : DoorRec) : (s.setDoor d r).path = s.path := rfl
@[simp] theorem State.setDoor_classifier (d : Fin 8) (r : DoorRec) : (s.setDoor d r).classifier = s.classifier := rfl
@[simp] theorem State.setDoor_sample (d : Fin 8) (r : DoorRec) : (s.setDoor d r).sample = s.sample := rfl
@[simp] theorem State.setDoor_zone (d : Fin 8) (r : DoorRec) : (s.setDoor d r).zone = s.zone := rfl
@[simp] theorem State.setDoor_actuator (d : Fin 8) (r : DoorRec) : (s.setDoor d r).actuator = s.actuator := rfl
@[simp] theorem State.setDoor_budget (d : Fin 8) (r : DoorRec) : (s.setDoor d r).budget = s.budget := rfl
@[simp] theorem State.setDoor_glazing (d : Fin 8) (r : DoorRec) : (s.setDoor d r).glazing = s.glazing := rfl
@[simp] theorem State.setDoor_override (d : Fin 8) (r : DoorRec) : (s.setDoor d r).override = s.override := rfl
@[simp] theorem State.setDoor_notice (d : Fin 8) (r : DoorRec) : (s.setDoor d r).notice = s.notice := rfl
@[simp] theorem State.setDoor_agent (d : Fin 8) (r : DoorRec) : (s.setDoor d r).agent = s.agent := rfl

@[simp] theorem State.setHoldOver_pending (z : Fin 8) (t : Timer) : (s.setHoldOver z t).pending = s.pending := rfl
@[simp] theorem State.setHoldOver_pins (z : Fin 8) (t : Timer) : (s.setHoldOver z t).pins = s.pins := rfl
@[simp] theorem State.setHoldOver_partTime (z : Fin 8) (t : Timer) : (s.setHoldOver z t).partTime = s.partTime := rfl
@[simp] theorem State.setHoldOver_path (z : Fin 8) (t : Timer) : (s.setHoldOver z t).path = s.path := rfl
@[simp] theorem State.setHoldOver_classifier (z : Fin 8) (t : Timer) : (s.setHoldOver z t).classifier = s.classifier := rfl
@[simp] theorem State.setHoldOver_sample (z : Fin 8) (t : Timer) : (s.setHoldOver z t).sample = s.sample := rfl
@[simp] theorem State.setHoldOver_zone (z : Fin 8) (t : Timer) : (s.setHoldOver z t).zone = s.zone := rfl
@[simp] theorem State.setHoldOver_actuator (z : Fin 8) (t : Timer) : (s.setHoldOver z t).actuator = s.actuator := rfl
@[simp] theorem State.setHoldOver_budget (z : Fin 8) (t : Timer) : (s.setHoldOver z t).budget = s.budget := rfl
@[simp] theorem State.setHoldOver_glazing (z : Fin 8) (t : Timer) : (s.setHoldOver z t).glazing = s.glazing := rfl
@[simp] theorem State.setHoldOver_override (z : Fin 8) (t : Timer) : (s.setHoldOver z t).override = s.override := rfl
@[simp] theorem State.setHoldOver_notice (z : Fin 8) (t : Timer) : (s.setHoldOver z t).notice = s.notice := rfl
@[simp] theorem State.setHoldOver_agent (z : Fin 8) (t : Timer) : (s.setHoldOver z t).agent = s.agent := rfl

@[simp] theorem State.setPanel_pending (p : Fin 4) (r : PanelRec) : (s.setPanel p r).pending = s.pending := rfl
@[simp] theorem State.setPanel_pins (p : Fin 4) (r : PanelRec) : (s.setPanel p r).pins = s.pins := rfl
@[simp] theorem State.setPanel_partTime (p : Fin 4) (r : PanelRec) : (s.setPanel p r).partTime = s.partTime := rfl
@[simp] theorem State.setPanel_path (p : Fin 4) (r : PanelRec) : (s.setPanel p r).path = s.path := rfl
@[simp] theorem State.setPanel_classifier (p : Fin 4) (r : PanelRec) : (s.setPanel p r).classifier = s.classifier := rfl
@[simp] theorem State.setPanel_sample (p : Fin 4) (r : PanelRec) : (s.setPanel p r).sample = s.sample := rfl
@[simp] theorem State.setPanel_zone (p : Fin 4) (r : PanelRec) : (s.setPanel p r).zone = s.zone := rfl
@[simp] theorem State.setPanel_actuator (p : Fin 4) (r : PanelRec) : (s.setPanel p r).actuator = s.actuator := rfl
@[simp] theorem State.setPanel_budget (p : Fin 4) (r : PanelRec) : (s.setPanel p r).budget = s.budget := rfl
@[simp] theorem State.setPanel_door (p : Fin 4) (r : PanelRec) : (s.setPanel p r).door = s.door := rfl
@[simp] theorem State.setPanel_override (p : Fin 4) (r : PanelRec) : (s.setPanel p r).override = s.override := rfl
@[simp] theorem State.setPanel_notice (p : Fin 4) (r : PanelRec) : (s.setPanel p r).notice = s.notice := rfl
@[simp] theorem State.setPanel_agent (p : Fin 4) (r : PanelRec) : (s.setPanel p r).agent = s.agent := rfl

@[simp] theorem State.setChannel_pending (c : Fin 48) (r : ChannelRec) : (s.setChannel c r).pending = s.pending := rfl
@[simp] theorem State.setChannel_pins (c : Fin 48) (r : ChannelRec) : (s.setChannel c r).pins = s.pins := rfl
@[simp] theorem State.setChannel_partTime (c : Fin 48) (r : ChannelRec) : (s.setChannel c r).partTime = s.partTime := rfl
@[simp] theorem State.setChannel_path (c : Fin 48) (r : ChannelRec) : (s.setChannel c r).path = s.path := rfl
@[simp] theorem State.setChannel_classifier (c : Fin 48) (r : ChannelRec) : (s.setChannel c r).classifier = s.classifier := rfl
@[simp] theorem State.setChannel_zone (c : Fin 48) (r : ChannelRec) : (s.setChannel c r).zone = s.zone := rfl
@[simp] theorem State.setChannel_actuator (c : Fin 48) (r : ChannelRec) : (s.setChannel c r).actuator = s.actuator := rfl
@[simp] theorem State.setChannel_budget (c : Fin 48) (r : ChannelRec) : (s.setChannel c r).budget = s.budget := rfl
@[simp] theorem State.setChannel_door (c : Fin 48) (r : ChannelRec) : (s.setChannel c r).door = s.door := rfl
@[simp] theorem State.setChannel_glazing (c : Fin 48) (r : ChannelRec) : (s.setChannel c r).glazing = s.glazing := rfl
@[simp] theorem State.setChannel_override (c : Fin 48) (r : ChannelRec) : (s.setChannel c r).override = s.override := rfl
@[simp] theorem State.setChannel_notice (c : Fin 48) (r : ChannelRec) : (s.setChannel c r).notice = s.notice := rfl
@[simp] theorem State.setChannel_agent (c : Fin 48) (r : ChannelRec) : (s.setChannel c r).agent = s.agent := rfl

@[simp] theorem State.mapSlots_pending (f : Fin 32 → SlotRec → SlotRec) : (s.mapSlots f).pending = s.pending := rfl
@[simp] theorem State.mapSlots_pins (f : Fin 32 → SlotRec → SlotRec) : (s.mapSlots f).pins = s.pins := rfl
@[simp] theorem State.mapSlots_partTime (f : Fin 32 → SlotRec → SlotRec) : (s.mapSlots f).partTime = s.partTime := rfl
@[simp] theorem State.mapSlots_path (f : Fin 32 → SlotRec → SlotRec) : (s.mapSlots f).path = s.path := rfl
@[simp] theorem State.mapSlots_classifier (f : Fin 32 → SlotRec → SlotRec) : (s.mapSlots f).classifier = s.classifier := rfl
@[simp] theorem State.mapSlots_sample (f : Fin 32 → SlotRec → SlotRec) : (s.mapSlots f).sample = s.sample := rfl
@[simp] theorem State.mapSlots_zone (f : Fin 32 → SlotRec → SlotRec) : (s.mapSlots f).zone = s.zone := rfl
@[simp] theorem State.mapSlots_budget (f : Fin 32 → SlotRec → SlotRec) : (s.mapSlots f).budget = s.budget := rfl
@[simp] theorem State.mapSlots_door (f : Fin 32 → SlotRec → SlotRec) : (s.mapSlots f).door = s.door := rfl
@[simp] theorem State.mapSlots_glazing (f : Fin 32 → SlotRec → SlotRec) : (s.mapSlots f).glazing = s.glazing := rfl
@[simp] theorem State.mapSlots_override (f : Fin 32 → SlotRec → SlotRec) : (s.mapSlots f).override = s.override := rfl
@[simp] theorem State.mapSlots_notice (f : Fin 32 → SlotRec → SlotRec) : (s.mapSlots f).notice = s.notice := rfl
@[simp] theorem State.mapSlots_agent (f : Fin 32 → SlotRec → SlotRec) : (s.mapSlots f).agent = s.agent := rfl

@[simp] theorem State.mapAsks_pending (f : Fin 32 → SlotRec → Asks) : (s.mapAsks f).pending = s.pending := rfl
@[simp] theorem State.mapAsks_pins (f : Fin 32 → SlotRec → Asks) : (s.mapAsks f).pins = s.pins := rfl
@[simp] theorem State.mapAsks_partTime (f : Fin 32 → SlotRec → Asks) : (s.mapAsks f).partTime = s.partTime := rfl
@[simp] theorem State.mapAsks_path (f : Fin 32 → SlotRec → Asks) : (s.mapAsks f).path = s.path := rfl
@[simp] theorem State.mapAsks_classifier (f : Fin 32 → SlotRec → Asks) : (s.mapAsks f).classifier = s.classifier := rfl
@[simp] theorem State.mapAsks_sample (f : Fin 32 → SlotRec → Asks) : (s.mapAsks f).sample = s.sample := rfl
@[simp] theorem State.mapAsks_zone (f : Fin 32 → SlotRec → Asks) : (s.mapAsks f).zone = s.zone := rfl
@[simp] theorem State.mapAsks_budget (f : Fin 32 → SlotRec → Asks) : (s.mapAsks f).budget = s.budget := rfl
@[simp] theorem State.mapAsks_door (f : Fin 32 → SlotRec → Asks) : (s.mapAsks f).door = s.door := rfl
@[simp] theorem State.mapAsks_glazing (f : Fin 32 → SlotRec → Asks) : (s.mapAsks f).glazing = s.glazing := rfl
@[simp] theorem State.mapAsks_override (f : Fin 32 → SlotRec → Asks) : (s.mapAsks f).override = s.override := rfl
@[simp] theorem State.mapAsks_notice (f : Fin 32 → SlotRec → Asks) : (s.mapAsks f).notice = s.notice := rfl
@[simp] theorem State.mapAsks_agent (f : Fin 32 → SlotRec → Asks) : (s.mapAsks f).agent = s.agent := rfl

@[simp] theorem State.setZone_zone_schedule (z : Fin 8) (r : ZoneRec) :
    (s.setZone z r).zone.schedule = s.zone.schedule := rfl
@[simp] theorem State.setZone_zone_schedulePending (z : Fin 8) (r : ZoneRec) :
    (s.setZone z r).zone.schedulePending = s.zone.schedulePending := rfl
@[simp] theorem State.setZone_zone_activeBand (z : Fin 8) (r : ZoneRec) :
    (s.setZone z r).zone.activeBand = s.zone.activeBand := rfl

@[simp] theorem State.setSlot_actuator_sections (i : Fin 32) (r : SlotRec) :
    (s.setSlot i r).actuator.sections = s.actuator.sections := rfl
@[simp] theorem State.setSlot_actuator_startHold (i : Fin 32) (r : SlotRec) :
    (s.setSlot i r).actuator.startHold = s.actuator.startHold := rfl
@[simp] theorem State.setSlot_actuator_loadsPending (i : Fin 32) (r : SlotRec) :
    (s.setSlot i r).actuator.loadsPending = s.actuator.loadsPending := rfl

@[simp] theorem State.setSection_actuator_slots (x : BodySection) (r : SectionRec) :
    (s.setSection x r).actuator.slots = s.actuator.slots := rfl
@[simp] theorem State.setSection_actuator_startHold (x : BodySection) (r : SectionRec) :
    (s.setSection x r).actuator.startHold = s.actuator.startHold := rfl
@[simp] theorem State.setSection_actuator_loadsPending (x : BodySection) (r : SectionRec) :
    (s.setSection x r).actuator.loadsPending = s.actuator.loadsPending := rfl

@[simp] theorem State.setRow_budget_entry (i : Fin 32) (r : GrantRow) :
    (s.setRow i r).budget.entry = s.budget.entry := rfl
@[simp] theorem State.setRow_budget_state (i : Fin 32) (r : GrantRow) :
    (s.setRow i r).budget.state = s.budget.state := rfl
@[simp] theorem State.setRow_budget_heldVoltage (i : Fin 32) (r : GrantRow) :
    (s.setRow i r).budget.heldVoltage = s.budget.heldVoltage := rfl
@[simp] theorem State.setRow_budget_heldAllowance (i : Fin 32) (r : GrantRow) :
    (s.setRow i r).budget.heldAllowance = s.budget.heldAllowance := rfl
@[simp] theorem State.setRow_budget_heldSurplus (i : Fin 32) (r : GrantRow) :
    (s.setRow i r).budget.heldSurplus = s.budget.heldSurplus := rfl
@[simp] theorem State.setRow_budget_banking (i : Fin 32) (r : GrantRow) :
    (s.setRow i r).budget.banking = s.budget.banking := rfl
@[simp] theorem State.setRow_budget_ramp (i : Fin 32) (r : GrantRow) :
    (s.setRow i r).budget.ramp = s.budget.ramp := rfl
@[simp] theorem State.setRow_budget_settleTimer (i : Fin 32) (r : GrantRow) :
    (s.setRow i r).budget.settleTimer = s.budget.settleTimer := rfl
@[simp] theorem State.setRow_budget_gapTimer (i : Fin 32) (r : GrantRow) :
    (s.setRow i r).budget.gapTimer = s.budget.gapTimer := rfl
@[simp] theorem State.setRow_budget_lineBudget (i : Fin 32) (r : GrantRow) :
    (s.setRow i r).budget.lineBudget = s.budget.lineBudget := rfl
@[simp] theorem State.setRow_budget_batteryBudget (i : Fin 32) (r : GrantRow) :
    (s.setRow i r).budget.batteryBudget = s.budget.batteryBudget := rfl
@[simp] theorem State.setRow_budget_periodTimer (i : Fin 32) (r : GrantRow) :
    (s.setRow i r).budget.periodTimer = s.budget.periodTimer := rfl

@[simp] theorem State.setDoor_door_holdOver (d : Fin 8) (r : DoorRec) :
    (s.setDoor d r).door.holdOver = s.door.holdOver := rfl

@[simp] theorem State.setHoldOver_door_doors (z : Fin 8) (t : Timer) :
    (s.setHoldOver z t).door.doors = s.door.doors := rfl

@[simp] theorem State.setPanel_glazing_dew (p : Fin 4) (r : PanelRec) :
    (s.setPanel p r).glazing.dew = s.glazing.dew := rfl
@[simp] theorem State.setPanel_glazing_dewPending (p : Fin 4) (r : PanelRec) :
    (s.setPanel p r).glazing.dewPending = s.glazing.dewPending := rfl

@[simp] theorem State.setChannel_sample_outdoor (c : Fin 48) (r : ChannelRec) :
    (s.setChannel c r).sample.outdoor = s.sample.outdoor := rfl
@[simp] theorem State.setChannel_sample_outdoorUnknown (c : Fin 48) (r : ChannelRec) :
    (s.setChannel c r).sample.outdoorUnknown = s.sample.outdoorUnknown := rfl
@[simp] theorem State.setChannel_sample_outdoorExisted (c : Fin 48) (r : ChannelRec) :
    (s.setChannel c r).sample.outdoorExisted = s.sample.outdoorExisted := rfl

@[simp] theorem State.mapSlots_actuator_sections (f : Fin 32 → SlotRec → SlotRec) :
    (s.mapSlots f).actuator.sections = s.actuator.sections := rfl
@[simp] theorem State.mapSlots_actuator_startHold (f : Fin 32 → SlotRec → SlotRec) :
    (s.mapSlots f).actuator.startHold = s.actuator.startHold := rfl
@[simp] theorem State.mapSlots_actuator_loadsPending (f : Fin 32 → SlotRec → SlotRec) :
    (s.mapSlots f).actuator.loadsPending = s.actuator.loadsPending := rfl

@[simp] theorem State.mapAsks_actuator_sections (f : Fin 32 → SlotRec → Asks) :
    (s.mapAsks f).actuator.sections = s.actuator.sections := rfl
@[simp] theorem State.mapAsks_actuator_startHold (f : Fin 32 → SlotRec → Asks) :
    (s.mapAsks f).actuator.startHold = s.actuator.startHold := rfl
@[simp] theorem State.mapAsks_actuator_loadsPending (f : Fin 32 → SlotRec → Asks) :
    (s.mapAsks f).actuator.loadsPending = s.actuator.loadsPending := rfl

@[simp] theorem State.zoneAt_setZone_self (z : Fin 8) (r : ZoneRec) : (s.setZone z r).zoneAt z = r :=
  Table.get_set_self _ _ _

theorem State.zoneAt_setZone (z j : Fin 8) (r : ZoneRec) :
    (s.setZone z r).zoneAt j = if z = j then r else s.zoneAt j :=
  Table.get_set _ _ _ _

@[simp] theorem State.zoneAt_setZone_ne (z j : Fin 8) (r : ZoneRec) (h : z ≠ j) :
    (s.setZone z r).zoneAt j = s.zoneAt j :=
  Table.get_set_ne _ _ _ _ h

@[simp] theorem State.slotAt_setSlot_self (i : Fin 32) (r : SlotRec) : (s.setSlot i r).slotAt i = r :=
  Table.get_set_self _ _ _

theorem State.slotAt_setSlot (i j : Fin 32) (r : SlotRec) :
    (s.setSlot i r).slotAt j = if i = j then r else s.slotAt j :=
  Table.get_set _ _ _ _

@[simp] theorem State.slotAt_setSlot_ne (i j : Fin 32) (r : SlotRec) (h : i ≠ j) :
    (s.setSlot i r).slotAt j = s.slotAt j :=
  Table.get_set_ne _ _ _ _ h

@[simp] theorem State.rowAt_setRow_self (i : Fin 32) (r : GrantRow) : (s.setRow i r).rowAt i = r :=
  Table.get_set_self _ _ _

theorem State.rowAt_setRow (i j : Fin 32) (r : GrantRow) :
    (s.setRow i r).rowAt j = if i = j then r else s.rowAt j :=
  Table.get_set _ _ _ _

@[simp] theorem State.rowAt_setRow_ne (i j : Fin 32) (r : GrantRow) (h : i ≠ j) :
    (s.setRow i r).rowAt j = s.rowAt j :=
  Table.get_set_ne _ _ _ _ h

@[simp] theorem State.doorAt_setDoor_self (d : Fin 8) (r : DoorRec) : (s.setDoor d r).doorAt d = r :=
  Table.get_set_self _ _ _

theorem State.doorAt_setDoor (d j : Fin 8) (r : DoorRec) :
    (s.setDoor d r).doorAt j = if d = j then r else s.doorAt j :=
  Table.get_set _ _ _ _

@[simp] theorem State.doorAt_setDoor_ne (d j : Fin 8) (r : DoorRec) (h : d ≠ j) :
    (s.setDoor d r).doorAt j = s.doorAt j :=
  Table.get_set_ne _ _ _ _ h

@[simp] theorem State.holdOverAt_setHoldOver_self (z : Fin 8) (r : Timer) : (s.setHoldOver z r).holdOverAt z = r :=
  Table.get_set_self _ _ _

theorem State.holdOverAt_setHoldOver (z j : Fin 8) (r : Timer) :
    (s.setHoldOver z r).holdOverAt j = if z = j then r else s.holdOverAt j :=
  Table.get_set _ _ _ _

@[simp] theorem State.holdOverAt_setHoldOver_ne (z j : Fin 8) (r : Timer) (h : z ≠ j) :
    (s.setHoldOver z r).holdOverAt j = s.holdOverAt j :=
  Table.get_set_ne _ _ _ _ h

@[simp] theorem State.panelAt_setPanel_self (p : Fin 4) (r : PanelRec) : (s.setPanel p r).panelAt p = r :=
  Table.get_set_self _ _ _

theorem State.panelAt_setPanel (p j : Fin 4) (r : PanelRec) :
    (s.setPanel p r).panelAt j = if p = j then r else s.panelAt j :=
  Table.get_set _ _ _ _

@[simp] theorem State.panelAt_setPanel_ne (p j : Fin 4) (r : PanelRec) (h : p ≠ j) :
    (s.setPanel p r).panelAt j = s.panelAt j :=
  Table.get_set_ne _ _ _ _ h

@[simp] theorem State.channelAt_setChannel_self (c : Fin 48) (r : ChannelRec) : (s.setChannel c r).channelAt c = r :=
  Table.get_set_self _ _ _

theorem State.channelAt_setChannel (c j : Fin 48) (r : ChannelRec) :
    (s.setChannel c r).channelAt j = if c = j then r else s.channelAt j :=
  Table.get_set _ _ _ _

@[simp] theorem State.channelAt_setChannel_ne (c j : Fin 48) (r : ChannelRec) (h : c ≠ j) :
    (s.setChannel c r).channelAt j = s.channelAt j :=
  Table.get_set_ne _ _ _ _ h

theorem sectionIndex_injective {x y : BodySection} (h : sectionIndex x = sectionIndex y) : x = y := by
  cases x <;> cases y <;> simp_all [sectionIndex]

@[simp] theorem State.sectionAt_setSection_self (x : BodySection) (r : SectionRec) :
    (s.setSection x r).sectionAt x = r :=
  Table.get_set_self _ _ _

theorem State.sectionAt_setSection (x y : BodySection) (r : SectionRec) :
    (s.setSection x r).sectionAt y = if x = y then r else s.sectionAt y := by
  by_cases h : x = y
  · subst h; simp
  · rw [if_neg h]
    exact Table.get_set_ne _ _ _ _ fun e => h (sectionIndex_injective e)

@[simp] theorem State.slotAt_mapSlots (f : Fin 32 → SlotRec → SlotRec) (i : Fin 32) :
    (s.mapSlots f).slotAt i = f i (s.slotAt i) :=
  Table.get_map _ _ _

@[simp] theorem State.slotAt_mapAsks (f : Fin 32 → SlotRec → Asks) (i : Fin 32) :
    (s.mapAsks f).slotAt i = { s.slotAt i with asks := f i (s.slotAt i) } :=
  Table.get_map _ _ _

/-! ## The state of an event in progress -/

@[simp] theorem Event.of_st : (Event.of s).st = s := rfl

@[simp] theorem Event.map_st (e : Event) (f : State → State) : (e.map f).st = f e.st := rfl

@[simp] theorem Event.callPass_st (e : Event) : e.callPass.st = e.st := rfl

@[simp] theorem State.taken_pending (c : Instr) : (s.taken c).pending = s.pending := rfl
@[simp] theorem State.taken_pins (c : Instr) : (s.taken c).pins = s.pins := rfl
@[simp] theorem State.taken_partTime (c : Instr) : (s.taken c).partTime = s.partTime := rfl
@[simp] theorem State.taken_path (c : Instr) : (s.taken c).path = s.path := rfl
@[simp] theorem State.taken_table (c : Instr) :
    (s.taken c).classifier.table = s.classifier.table := rfl
@[simp] theorem State.taken_port (c : Instr) : (s.taken c).classifier.port = s.classifier.port := rfl
@[simp] theorem State.taken_sample (c : Instr) : (s.taken c).sample = s.sample := rfl
@[simp] theorem State.taken_zone (c : Instr) : (s.taken c).zone = s.zone := rfl
@[simp] theorem State.taken_actuator (c : Instr) : (s.taken c).actuator = s.actuator := rfl
@[simp] theorem State.taken_budget (c : Instr) : (s.taken c).budget = s.budget := rfl
@[simp] theorem State.taken_door (c : Instr) : (s.taken c).door = s.door := rfl
@[simp] theorem State.taken_glazing (c : Instr) : (s.taken c).glazing = s.glazing := rfl
@[simp] theorem State.taken_override (c : Instr) : (s.taken c).override = s.override := rfl
@[simp] theorem State.taken_notice (c : Instr) : (s.taken c).notice = s.notice := rfl
@[simp] theorem State.taken_agent (c : Instr) : (s.taken c).agent = s.agent := rfl

end Sys2Proof.Machine
end

