-- ==== Sys2Proof/Laws/Agree.lean ====
section
/-!
SUPPORT. What each shared operation leaves alone: for each one lemma that names the parts it may
touch. The state of an event in progress is compared with the state it began from.
-/

namespace Sys2Proof.Machine

/-! ## Agreement -/

theorem Part.same_refl (p : Part) (s : State) : p.same s s := by
  cases p <;> simp [Part.same]

theorem Part.same_trans {p : Part} {s t u : State} (h : p.same s t) (k : p.same t u) :
    p.same s u := by
  cases p <;> simp only [Part.same] at h k ⊢
  case supply =>
    cases hs : s.budget; cases ht : t.budget; cases hu : u.budget
    simp_all
  all_goals first
    | exact k.trans h
    | exact fun z => (k z).trans (h z)
    | exact fun z => ⟨(k z).1.trans (h z).1, (k z).2.trans (h z).2⟩
    | exact ⟨k.1.trans h.1, k.2.trans h.2⟩
    | exact ⟨k.1.trans h.1, k.2.1.trans h.2.1, k.2.2.trans h.2.2⟩
    | exact ⟨k.1.trans h.1, k.2.1.trans h.2.1, k.2.2.1.trans h.2.2.1, k.2.2.2.trans h.2.2.2⟩

theorem AgreeExcept.refl (l : List Part) (s : State) : AgreeExcept l s s :=
  fun p _ => p.same_refl s

theorem AgreeExcept.trans {l : List Part} {s t u : State} (h : AgreeExcept l s t)
    (k : AgreeExcept l t u) : AgreeExcept l s u :=
  fun p hp => Part.same_trans (h p hp) (k p hp)

theorem AgreeExcept.mono {l m : List Part} {s t : State} (h : AgreeExcept l s t)
    (sub : ∀ p ∈ l, p ∈ m) : AgreeExcept m s t :=
  fun p hp => h p fun hl => hp (sub p hl)

/-- An event step that touches at most the listed parts. -/
abbrev Event.Touches (l : List Part) (e f : Event) : Prop := AgreeExcept l e.st f.st

theorem touches_foldl {α : Type} {l : List Part} {step : Event → α → Event}
    (h : ∀ (e : Event) a, e.Touches l (step e a)) (xs : List α) (e : Event) :
    e.Touches l (xs.foldl step e) := by
  induction xs generalizing e with
  | nil => exact AgreeExcept.refl l e.st
  | cons a rest ih => exact (h e a).trans (ih (step e a))

theorem agree_foldl {α : Type} {l : List Part} {step : State → α → State}
    (h : ∀ s a, AgreeExcept l s (step s a)) (xs : List α) (s : State) :
    AgreeExcept l s (xs.foldl step s) := by
  induction xs generalizing s with
  | nil => exact AgreeExcept.refl l s
  | cons a rest ih => exact (h s a).trans (ih (step s a))

/-- Closes the agreement of an explicit update of the state, part by part. -/
theorem agree_of_parts {l : List Part} {s t : State} (h : ∀ p : Part, p ∉ l → p.same s t) :
    AgreeExcept l s t := h

/-! ## Notices, faults and frames offered -/

theorem Event.notice_touches (e : Event) (n : NoticeUnit) : e.Touches [.notices] (e.notice n) := by
  intro p hp
  cases p <;> simp [Part.same, Event.notice, State.zoneAt] at hp ⊢

theorem Event.raise_touches (e : Event) (x : Source) : e.Touches [.notices] (e.raise x) :=
  e.notice_touches _

theorem Event.fault_touches (e : Event) (code : FaultCode) (i : Nat) :
    e.Touches [.notices] (e.fault code i) := by
  unfold Event.fault
  split
  · exact (e.notice_touches _).trans (Event.raise_touches _ _)
  · exact e.notice_touches _

theorem Event.faults_touches (e : Event) (code : FaultCode) (l : List Nat) :
    e.Touches [.notices] (e.faults code l) :=
  touches_foldl (fun e i => e.fault_touches code i) l e

theorem Event.offerVehicle_touches (e : Event) (own : Bool) (f : VehicleFrame) :
    e.Touches [.vehicleLine, .notices] (e.offerVehicle own f) := by
  unfold Event.offerVehicle
  dsimp only
  by_cases h : e.st.path.vehicleQueue.length < if own then 24 else 16
  · rw [if_pos h]
    intro p hp
    cases p <;> simp [Part.same, State.zoneAt, FramePath.beginVehicle] at hp ⊢ <;>
      (repeat' split) <;> simp
  · rw [if_neg h]
    exact AgreeExcept.mono (e.raise_touches .portOverrun) (by simp)

theorem Event.offerForward_touches (e : Event) (f : ForwardFrame) :
    e.Touches [.plantLine, .notices] (e.offerForward f) := by
  unfold Event.offerForward
  dsimp only
  split
  · intro p hp
    cases p <;> simp [Part.same, State.zoneAt] at hp ⊢
  · exact AgreeExcept.mono (e.raise_touches .portOverrun) (by simp)

/-! ## Commands -/

theorem Event.putCommand_touches (e : Event) (c : WaitingCommand) :
    e.Touches [.plantLine] (e.putCommand c) := by
  unfold Event.putCommand
  dsimp only
  split
  · intro p hp
    cases p <;> simp [Part.same, State.zoneAt] at hp ⊢
  · split <;> exact AgreeExcept.refl _ _

theorem Event.dropCommand_touches (e : Event) (i : Fin 32) :
    e.Touches [.plantLine] (e.dropCommand i) := by
  intro p hp
  cases p <;> simp [Part.same, State.zoneAt, Event.dropCommand] at hp ⊢

theorem setSlot_agrees (s : State) (i : Fin 32) (r : SlotRec) :
    AgreeExcept [.slots] s (s.setSlot i r) := by
  intro p hp
  cases p <;> simp [Part.same, State.zoneAt] at hp ⊢

theorem setSection_agrees (s : State) (x : BodySection) (r : SectionRec) :
    AgreeExcept [.sections] s (s.setSection x r) := by
  intro p hp
  cases p <;> simp [Part.same, State.zoneAt] at hp ⊢

theorem setRow_agrees (s : State) (i : Fin 32) (r : GrantRow) :
    AgreeExcept [.rows] s (s.setRow i r) := by
  intro p hp
  cases p <;> simp [Part.same, State.zoneAt, State.setRow] at hp ⊢

theorem mapSlots_agrees (s : State) (f : Fin 32 → SlotRec → SlotRec) :
    AgreeExcept [.slots] s (s.mapSlots f) := by
  intro p hp
  cases p <;> simp [Part.same, State.zoneAt] at hp ⊢

theorem mapAsks_agrees (s : State) (f : Fin 32 → SlotRec → Asks) :
    AgreeExcept [.slots] s (s.mapAsks f) := mapSlots_agrees s _

theorem Event.placeCommand_touches (e : Event) (i : Fin 32) :
    e.Touches [.slots, .plantLine] (e.placeCommand i) := by
  unfold Event.placeCommand
  dsimp only
  split
  · exact AgreeExcept.refl _ _
  · split
    · exact AgreeExcept.refl _ _
    · exact AgreeExcept.trans ((setSlot_agrees _ _ _).mono (by simp))
        ((Event.putCommand_touches _ _).mono (by simp))

theorem Event.command_touches (e : Event) (i : Fin 32) (level : Nat) :
    e.Touches [.slots, .plantLine] (e.command i level) := by
  unfold Event.command
  dsimp only
  split
  · exact AgreeExcept.refl _ _
  · exact AgreeExcept.trans ((setSlot_agrees _ _ _).mono (by simp)) (Event.placeCommand_touches _ _)

/-! ## The end of an event that changes no load -/

theorem Event.sendNotice_touches (e : Event) (d : Destination) :
    e.Touches [.vehicleLine, .notices] (e.sendNotice d) := by
  refine AgreeExcept.trans (t := { e.st with notice := _ }) ?_ (Event.offerVehicle_touches _ _ _)
  intro p hp
  cases p <;> simp [Part.same, State.zoneAt] at hp ⊢

theorem Event.quiet_touches (e : Event) (d : Destination) : e.Touches [.notices] (e.quiet d) := by
  intro p hp
  cases p <;> simp [Part.same, State.zoneAt, Event.quiet] at hp ⊢

theorem Event.examine_touches (e : Event) (d : Destination) :
    e.Touches [.vehicleLine, .notices] (e.examine d) := by
  unfold Event.examine
  dsimp only
  split
  · exact e.sendNotice_touches d
  · exact AgreeExcept.refl _ _

theorem Event.examineEnd_touches (e : Event) (d : Destination) :
    e.Touches [.vehicleLine, .notices] (e.examineEnd d) := by
  unfold Event.examineEnd
  dsimp only
  repeat' split
  · exact (e.quiet_touches d).mono (by simp)
  · exact AgreeExcept.refl _ _
  · exact e.sendNotice_touches d
  · exact AgreeExcept.refl _ _
  · exact e.examine_touches d
  · exact AgreeExcept.refl _ _

theorem Event.examineBoth_touches (e : Event) :
    e.Touches [.vehicleLine, .notices] e.examineBoth := by
  have both := (e.examineEnd_touches .cab).trans (Event.examineEnd_touches _ .depot)
  unfold Event.examineBoth
  dsimp only
  split
  · exact both.trans (Event.examine_touches _ _)
  · exact both

theorem Event.giveReply_touches (e : Event) : e.Touches [.vehicleLine, .notices] e.giveReply := by
  unfold Event.giveReply
  split
  · dsimp only
    split
    · exact (((e.offerVehicle_touches _ _).trans (Event.examine_touches _ _)).trans
        (Event.examine_touches _ _)).trans (Event.examine_touches _ _)
    · exact e.offerVehicle_touches _ _
  · exact AgreeExcept.refl _ _

theorem Event.settleLevels_touches (e : Event) : e.Touches [.notices] e.settleLevels :=
  touches_foldl (fun e _ => e.notice_touches _) _ e

theorem Event.report_touches (e : Event) : e.Touches [.vehicleLine, .notices] e.report :=
  (AgreeExcept.trans (e.settleLevels_touches.mono (by simp)) (Event.examineBoth_touches _)).trans
    (Event.giveReply_touches _)

theorem Event.commitPlant_agrees (e : Event) : AgreeExcept [.plantLine] e.st e.commitPlant := by
  intro p hp
  cases p <;> simp [Part.same, State.zoneAt, Event.commitPlant, FramePath.beginPlant] at hp ⊢ <;>
    (repeat' split) <;> simp

/-- The end of an event that changes no contribution, request or level touches the lines and the
notice unit. -/
theorem Event.done_agrees (e : Event) :
    AgreeExcept [.vehicleLine, .plantLine, .notices] e.st e.done :=
  (e.report_touches.mono (by simp)).trans ((Event.commitPlant_agrees _).mono (by simp))

end Sys2Proof.Machine
end

