-- ==== Sys2Proof/Laws/Expiry.lean ====
section
/-!
SUPPORT. When a command acts: an expiry of a running timer at its moment, and a command that is no
expiry while the controller runs (R188, log entries 1 and 3).
-/

namespace Sys2Proof.Machine

variable {s : State}

@[simp] theorem State.expire_none : s.expire none = none := rfl

theorem State.expire_some (h : s.running = true) (at_ : PartTime) :
    s.expire (some at_) = some (s.atExpiry at_) := by
  simp [State.expire, h, State.atExpiry, State.moment]

theorem State.expire_inert (h : s.running = false) (t : Timer) : s.expire t = none := by
  cases t <;> simp [State.expire, h]

/-- An expiry of a running timer acts on the state at its moment. -/
theorem onExpiry_some (h : s.running = true) {t : Timer} {at_ : PartTime} (ht : t = some at_)
    (f : State → State) : onExpiry s t f = .next (f (s.atExpiry at_)) := by
  simp [onExpiry, ht, State.expire_some h]

@[simp] theorem onExpiry_none (f : State → State) : onExpiry s none f = .next s := rfl

theorem onExpiry_inert (h : s.running = false) (t : Timer) (f : State → State) :
    onExpiry s t f = .next s := by
  simp [onExpiry, State.expire_inert h]

/-- An expiry answers a next state. -/
theorem onExpiry_answers (t : Timer) (f : State → State) : ∃ u, onExpiry s t f = .next u := by
  unfold onExpiry
  split <;> exact ⟨_, rfl⟩

theorem whenRunning_running (h : s.running = true) (f : State → State) :
    whenRunning s f = .next (f s) := by
  simp [whenRunning, h]

theorem whenRunning_inert (h : s.running = false) (f : State → State) :
    whenRunning s f = .next s := by
  simp [whenRunning, h]

/-- The state at an expiry differs in part time alone. -/
theorem atExpiry_agrees (at_ : PartTime) : AgreeExcept [.clock] s (s.atExpiry at_) := by
  intro p hp
  cases p <;> simp [Part.same, State.atExpiry, State.zoneAt] at hp ⊢

@[simp] theorem State.atExpiry_partTime (at_ : PartTime) :
    (s.atExpiry at_).partTime = s.moment at_ := rfl

end Sys2Proof.Machine
end

