-- ==== Sys2Proof/Laws/Notices.lean ====
section
/-!
SUPPORT. What the end of an event does to the notice unit: it sets statuses and moves level raws, and
keeps the entry, the fault record, the statuses that stand and the raws of the edge sources (R163 to
R167).
-/

namespace Sys2Proof.Machine

/-- A notice unit keeps what another holds: the entry, the fault record, the statuses that are set and
the edge raws that are 1. -/
structure NoticeUnit.Keeps (n m : NoticeUnit) : Prop where
  entry : m.entry = n.entry
  record : m.record = n.record
  statuses : ∀ i, n.statuses.getLsbD i = true → m.statuses.getLsbD i = true
  edges : ∀ i, 12 ≤ i → n.raws.getLsbD i = true → m.raws.getLsbD i = true

theorem NoticeUnit.Keeps.refl (n : NoticeUnit) : n.Keeps n := ⟨rfl, rfl, fun _ h => h, fun _ _ h => h⟩

theorem NoticeUnit.Keeps.trans {n m k : NoticeUnit} (h : n.Keeps m) (h' : m.Keeps k) : n.Keeps k :=
  ⟨h'.entry.trans h.entry, h'.record.trans h.record, fun i hi => h'.statuses i (h.statuses i hi),
    fun i hi hr => h'.edges i hi (h.edges i hi hr)⟩

theorem NoticeUnit.setStatus_keeps (n : NoticeUnit) (x : Source) : n.Keeps (n.setStatus x) := by
  unfold NoticeUnit.setStatus
  split
  · exact ⟨rfl, rfl, fun i h => by simp [h], fun _ _ h => h⟩
  · exact .refl n

theorem NoticeUnit.withRaw_keeps (n : NoticeUnit) (x : Source) (on : Bool)
    (h : on = true ∨ x.number < 12) : n.Keeps (n.withRaw x on) := by
  refine ⟨rfl, rfl, fun _ h => h, fun i hi hr => ?_⟩
  have lt : i < 24 := by
    by_contra hl
    rw [BitVec.getLsbD_of_ge _ _ (by omega)] at hr
    cases hr
  unfold NoticeUnit.withRaw Source.bit
  cases on
  · have ne : i ≠ x.number := by
      rcases h with h | h
      · cases h
      · omega
    simp [hr, lt, ne]
  · simp [hr]

theorem level_number {x : Source} (h : x ∈ levelSources) : x.number < 12 := by
  revert x
  decide

theorem NoticeUnit.follow_keeps (n : NoticeUnit) (x : Source) (h : x ∈ levelSources)
    (valid condition : Bool) : n.Keeps (n.follow x valid condition) := by
  have raw := n.withRaw_keeps x (valid && condition) (.inr (level_number h))
  unfold NoticeUnit.follow
  dsimp only
  split
  · exact .refl n
  · split
    · exact raw
    · exact raw.trans (NoticeUnit.setStatus_keeps _ x)

theorem NoticeUnit.latch_keeps (n : NoticeUnit) (x : Source) (valid : Bool) :
    n.Keeps (n.latch x valid) := by
  unfold NoticeUnit.latch
  split
  · exact (n.withRaw_keeps x true (.inl rfl)).trans (NoticeUnit.setStatus_keeps _ x)
  · exact .refl n

theorem NoticeUnit.setDest_keeps (n : NoticeUnit) (d : Destination) (r : DestinationRec) :
    n.Keeps (n.setDest d r) := by
  cases d <;> exact ⟨rfl, rfl, fun _ h => h, fun _ _ h => h⟩

/-- A latched raise: the raw is 1, and a raw that rose has its status set where the source is stored
(R164, R165). -/
theorem NoticeUnit.latch_raw (n : NoticeUnit) (x : Source) : (n.latch x true).raw x = true := by
  have bit : x.bit &&& x.bit ≠ 0 := by cases x <;> decide
  unfold NoticeUnit.latch
  cases h : n.raw x
  · have or : (n.raws ||| x.bit) &&& x.bit = x.bit := by
      ext i hi
      simp only [BitVec.getElem_and, BitVec.getElem_or]
      cases n.raws[i] <;> cases x.bit[i] <;> rfl
    simp only [Bool.not_false, Bool.and_self, if_true, NoticeUnit.setStatus, NoticeUnit.raw,
      NoticeUnit.withRaw]
    split <;> simp_all
  · simp [h]

theorem Event.raise_keeps (e : Event) (x : Source) : e.st.notice.Keeps (e.raise x).st.notice :=
  NoticeUnit.latch_keeps _ x _

theorem Event.offerVehicle_keeps (e : Event) (own : Bool) (f : VehicleFrame) :
    e.st.notice.Keeps (e.offerVehicle own f).st.notice := by
  unfold Event.offerVehicle
  dsimp only
  by_cases h : e.st.path.vehicleQueue.length < (if own then 24 else 16)
  · rw [if_pos h]
    exact .refl _
  · rw [if_neg h]
    exact e.raise_keeps _

theorem Event.sendNotice_keeps (e : Event) (d : Destination) :
    e.st.notice.Keeps (e.sendNotice d).st.notice := by
  unfold Event.sendNotice Event.sendOwn
  refine .trans ?_ (Event.offerVehicle_keeps _ _ _)
  exact NoticeUnit.setDest_keeps _ d _

theorem Event.quiet_keeps (e : Event) (d : Destination) :
    e.st.notice.Keeps (e.quiet d).st.notice :=
  NoticeUnit.setDest_keeps _ d _

theorem Event.examine_keeps (e : Event) (d : Destination) :
    e.st.notice.Keeps (e.examine d).st.notice := by
  unfold Event.examine
  dsimp only
  split
  · exact e.sendNotice_keeps d
  · exact .refl _

theorem Event.examineEnd_keeps (e : Event) (d : Destination) :
    e.st.notice.Keeps (e.examineEnd d).st.notice := by
  unfold Event.examineEnd
  dsimp only
  repeat' split
  · exact e.quiet_keeps d
  · exact .refl _
  · exact e.sendNotice_keeps d
  · exact .refl _
  · exact e.examine_keeps d
  · exact .refl _

theorem Event.examineBoth_keeps (e : Event) : e.st.notice.Keeps e.examineBoth.st.notice := by
  have both := (e.examineEnd_keeps .cab).trans (Event.examineEnd_keeps _ .depot)
  unfold Event.examineBoth
  dsimp only
  split
  · exact both.trans (Event.examine_keeps _ _)
  · exact both

theorem Event.giveReply_keeps (e : Event) : e.st.notice.Keeps e.giveReply.st.notice := by
  unfold Event.giveReply
  split
  · dsimp only
    split
    · exact (((e.offerVehicle_keeps _ _).trans (Event.examine_keeps _ _)).trans
        (Event.examine_keeps _ _)).trans (Event.examine_keeps _ _)
    · exact e.offerVehicle_keeps _ _
  · exact .refl _

theorem Event.settleLevels_keeps (e : Event) : e.st.notice.Keeps e.settleLevels.st.notice := by
  have all : ∀ (l : List Source), (∀ x ∈ l, x ∈ levelSources) → ∀ e : Event,
      e.st.notice.Keeps (l.foldl
        (fun e x => e.notice (e.st.notice.follow x (e.st.valid x) (e.st.condition x))) e).st.notice := by
    intro l
    induction l with
    | nil => exact fun _ e => .refl _
    | cons x l ih =>
      intro h e
      rw [List.foldl_cons]
      refine .trans ?_ (ih (fun y hy => h y (by simp [hy])) _)
      exact NoticeUnit.follow_keeps _ x (h x (by simp)) _ _
  exact all levelSources (fun _ h => h) e

/-- The end of an event keeps what the notice unit holds. -/
theorem Event.done_keeps (e : Event) : e.st.notice.Keeps e.done.notice :=
  (e.settleLevels_keeps.trans (Event.examineBoth_keeps _)).trans (Event.giveReply_keeps _)

end Sys2Proof.Machine
end

