-- ==== Sys2Proof/Laws/Panels.lean ====
section
/-!
SUPPORT. The glazing contributions as `State.putPanels` writes them are those of R102 and R104
(`State.panelFollows`).
-/

namespace Sys2Proof.Machine

theorem treated_iff (s : State) (p : Fin 4) (x : RunOnOrigin) :
    s.treated p x ↔ (s.panelAt p).treatment = some x := by
  unfold State.treated PanelRec.treatment
  cases (s.panelAt p).state <;> cases x <;> simp

/-- A panel's contributions that are the ones recomputed follow the panel. -/
theorem panelFollows_of_asked (s t : State) (p : Fin 4)
    (h : ∀ i, (t.slotAt i).asks.glazing.get p = t.glazingAsk p i) : s.panelFollows t p := by
  intro i l hl
  have hl : (t.slotAt i).entry = some l := hl
  simp only [treated_iff, h i, State.glazingAsk, hl]
  refine ⟨fun k => ?_, fun k => ?_, fun k place _ => ?_⟩
  · cases (t.panelAt p).treatment with
    | none => simp [k]
    | some x => cases x <;> simp [k]
  · refine ⟨fun q => ?_, fun q => ?_⟩
    · simp [k, q.1, q.2]
    · have : ¬ ((t.panelAt p).entry.film = some i ∧ (t.panelAt p).treatment = some .defrost) :=
        fun r => q ⟨r.2, r.1⟩
      simp [k, this]
  · simp only [k, place, if_true, State.dehumidifyAsk]
    refine ⟨fun q => ?_, fun q => ?_⟩
    · simp [q.1, q.2.1, q.2.2]
    · refine if_neg fun r => q ⟨r.1, r.2.1, by simpa using r.2.2⟩

/-- Contributions that a recomputation of every panel's leaves as they are follow the panels. -/
theorem panelsFollow_of_putPanels (s : State) (h : s.putPanels = s) (p : Fin 4) :
    s.panelFollows s p :=
  panelFollows_of_asked s s p fun i => by
    conv => lhs; rw [← h]
    simp [State.putPanels, State.mapAsks, State.mapSlots, State.slotAt, Table.get_map]

end Sys2Proof.Machine
end

