-- ==== Sys2Proof/WellFormed.lean ====
section
/-!
DEFINITION. The checks on a command that its types do not make.
A frame that a block takes has passed the check of R144, so it carries at most 14 payload bytes.
A reception may complete with any bytes: those that are no frame are malformed (R144), not
ill-formed commands.
-/

namespace Sys2Proof

/-- The length field of a frame is at most 14 (R143, R144). -/
def Frame.wellFormed (f : Frame) : Bool := f.payload.length ≤ 14

/-- A command that can be given to the controller. -/
def Instr.wellFormed : Instr → Bool
  | .sampleFrame _ f => f.wellFormed
  | .doorFrame _ f => f.wellFormed
  | .supplyFrame f => f.wellFormed
  | .echoFrame _ f => f.wellFormed
  | .powerOn _ => true
  | .lineReset _ => true
  | .frameReception _ _ => true
  | .plantSilenceExpiry => true
  | .classifyFrame _ => true
  | .freshnessExpiry _ _ => true
  | .channelFreshnessExpiry _ => true
  | .staleTimerExpiry _ => true
  | .doorStale _ => true
  | .doorStep _ => true
  | .holdOverExpiry _ => true
  | .supplyFreshnessExpiry => true
  | .settleExpiry => true
  | .gapExpiry => true
  | .budgetPeriodExpiry => true
  | .minimumRunExpiry _ => true
  | .lockExpiry _ => true
  | .zonePass _ => true
  | .bankReleaseExpiry _ => true
  | .panelEvaluation _ => true
  | .escalateExpiry _ => true
  | .runOnExpiry _ => true
  | .refreshExpiry _ => true
  | .set _ _ _ _ => true
  | .cancel _ _ => true
  | .cancelAll => true
  | .ackNotices => true
  | .overrideExpiry _ _ => true
  | .statusTimerExpiry => true
  | .vehicleTxCompletion => true
  | .plantTxCompletion => true
  | .sessionTimerExpiry => true
  | .storeCompletion => true
  | .inactivityExpiry => true
  | .undefinedConsoleAction => true
  | .supplyDown => true
  | .resetInputHeld => true

end Sys2Proof
end

