-- ==== Sys2Proof/Laws/PerInstr.lean ====
section
/-!
SUPPORT. A family of lemmas about the commands as syntax: the frame that a well-formed command carries
is at most 20 bytes on the wire (R143, R192).
-/

namespace Sys2Proof.Laws

/-- The frame a command carries, where it carries one. -/
def carried : Instr → Option Frame
  | .sampleFrame _ f => some f
  | .doorFrame _ f => some f
  | .supplyFrame f => some f
  | .echoFrame _ f => some f
  | .powerOn _ => none
  | .lineReset _ => none
  | .frameReception _ _ => none
  | .plantSilenceExpiry => none
  | .classifyFrame _ => none
  | .freshnessExpiry _ _ => none
  | .channelFreshnessExpiry _ => none
  | .staleTimerExpiry _ => none
  | .doorStale _ => none
  | .doorStep _ => none
  | .holdOverExpiry _ => none
  | .supplyFreshnessExpiry => none
  | .settleExpiry => none
  | .gapExpiry => none
  | .budgetPeriodExpiry => none
  | .minimumRunExpiry _ => none
  | .lockExpiry _ => none
  | .zonePass _ => none
  | .bankReleaseExpiry _ => none
  | .panelEvaluation _ => none
  | .escalateExpiry _ => none
  | .runOnExpiry _ => none
  | .refreshExpiry _ => none
  | .set _ _ _ _ => none
  | .cancel _ _ => none
  | .cancelAll => none
  | .ackNotices => none
  | .overrideExpiry _ _ => none
  | .statusTimerExpiry => none
  | .vehicleTxCompletion => none
  | .plantTxCompletion => none
  | .sessionTimerExpiry => none
  | .storeCompletion => none
  | .inactivityExpiry => none
  | .undefinedConsoleAction => none
  | .supplyDown => none
  | .resetInputHeld => none

/-- A well-formed frame has at most 20 bytes: 4 of header, 14 of payload and 2 of check. -/
theorem frame_length (f : Frame) (h : f.wellFormed = true) :
    (Machine.frameBytes f).length ≤ 20 := by
  have h' : f.payload.length ≤ 14 := by simpa [Frame.wellFormed] using h
  simp only [Machine.frameBytes, Machine.headerBytes, Machine.bytes16, List.length_append,
    List.length_cons, List.length_nil]
  omega

namespace Carried

/-- The frame of a well-formed command has at most 20 bytes. -/
def Statement (i : Instr) : Prop :=
  i.wellFormed = true → ∀ f, carried i = some f → (Machine.frameBytes f).length ≤ 20

theorem powerOn (straps : BitVec 3) : Statement (.powerOn straps) :=
  fun _ _ h => nomatch h

theorem lineReset (straps : BitVec 3) : Statement (.lineReset straps) :=
  fun _ _ h => nomatch h

theorem frameReception (port : Port) (bytes : List Byte) : Statement (.frameReception port bytes) :=
  fun _ _ h => nomatch h

theorem plantSilenceExpiry : Statement .plantSilenceExpiry :=
  fun _ _ h => nomatch h

theorem classifyFrame (port : Port) : Statement (.classifyFrame port) :=
  fun _ _ h => nomatch h

theorem freshnessExpiry (side : Port) (stream : StreamId) : Statement (.freshnessExpiry side stream) :=
  fun _ _ h => nomatch h

theorem sampleFrame (channel : Fin 48) (frame : Frame) : Statement (.sampleFrame channel frame) := by
  rintro h f ⟨⟩
  exact frame_length _ h

theorem channelFreshnessExpiry (channel : Fin 48) : Statement (.channelFreshnessExpiry channel) :=
  fun _ _ h => nomatch h

theorem staleTimerExpiry (channel : Fin 48) : Statement (.staleTimerExpiry channel) :=
  fun _ _ h => nomatch h

theorem doorFrame (door : Fin 8) (frame : Frame) : Statement (.doorFrame door frame) := by
  rintro h f ⟨⟩
  exact frame_length _ h

theorem doorStale (door : Fin 8) : Statement (.doorStale door) :=
  fun _ _ h => nomatch h

theorem doorStep (door : Fin 8) : Statement (.doorStep door) :=
  fun _ _ h => nomatch h

theorem holdOverExpiry (zone : Fin 8) : Statement (.holdOverExpiry zone) :=
  fun _ _ h => nomatch h

theorem supplyFrame (frame : Frame) : Statement (.supplyFrame frame) := by
  rintro h f ⟨⟩
  exact frame_length _ h

theorem supplyFreshnessExpiry : Statement .supplyFreshnessExpiry :=
  fun _ _ h => nomatch h

theorem settleExpiry : Statement .settleExpiry :=
  fun _ _ h => nomatch h

theorem gapExpiry : Statement .gapExpiry :=
  fun _ _ h => nomatch h

theorem budgetPeriodExpiry : Statement .budgetPeriodExpiry :=
  fun _ _ h => nomatch h

theorem minimumRunExpiry (part : BodySection) : Statement (.minimumRunExpiry part) :=
  fun _ _ h => nomatch h

theorem lockExpiry (part : BodySection) : Statement (.lockExpiry part) :=
  fun _ _ h => nomatch h

theorem zonePass (zone : Fin 8) : Statement (.zonePass zone) :=
  fun _ _ h => nomatch h

theorem bankReleaseExpiry (zone : Fin 8) : Statement (.bankReleaseExpiry zone) :=
  fun _ _ h => nomatch h

theorem panelEvaluation (panel : Fin 4) : Statement (.panelEvaluation panel) :=
  fun _ _ h => nomatch h

theorem escalateExpiry (panel : Fin 4) : Statement (.escalateExpiry panel) :=
  fun _ _ h => nomatch h

theorem runOnExpiry (panel : Fin 4) : Statement (.runOnExpiry panel) :=
  fun _ _ h => nomatch h

theorem refreshExpiry (slot : Fin 32) : Statement (.refreshExpiry slot) :=
  fun _ _ h => nomatch h

theorem echoFrame (slot : Fin 32) (frame : Frame) : Statement (.echoFrame slot frame) := by
  rintro h f ⟨⟩
  exact frame_length _ h

theorem set (kind target : Byte) (value : BitVec 16) (duration : BitVec 16) :
    Statement (.set kind target value duration) :=
  fun _ _ h => nomatch h

theorem cancel (kind target : Byte) : Statement (.cancel kind target) :=
  fun _ _ h => nomatch h

theorem cancelAll : Statement .cancelAll :=
  fun _ _ h => nomatch h

theorem ackNotices : Statement .ackNotices :=
  fun _ _ h => nomatch h

theorem overrideExpiry (kind target : Byte) : Statement (.overrideExpiry kind target) :=
  fun _ _ h => nomatch h

theorem statusTimerExpiry : Statement .statusTimerExpiry :=
  fun _ _ h => nomatch h

theorem vehicleTxCompletion : Statement .vehicleTxCompletion :=
  fun _ _ h => nomatch h

theorem plantTxCompletion : Statement .plantTxCompletion :=
  fun _ _ h => nomatch h

theorem sessionTimerExpiry : Statement .sessionTimerExpiry :=
  fun _ _ h => nomatch h

theorem storeCompletion : Statement .storeCompletion :=
  fun _ _ h => nomatch h

theorem inactivityExpiry : Statement .inactivityExpiry :=
  fun _ _ h => nomatch h

theorem undefinedConsoleAction : Statement .undefinedConsoleAction :=
  fun _ _ h => nomatch h

theorem supplyDown : Statement .supplyDown :=
  fun _ _ h => nomatch h

theorem resetInputHeld : Statement .resetInputHeld :=
  fun _ _ h => nomatch h

end Carried

end Sys2Proof.Laws
end

