-- ==== Sys2Proof/Laws/Settle.lean ====
section
/-!
SUPPORT. What the loads of an event may touch on their way to requests, grants and levels, up to the
end of the event (`Event.finish_agrees`).
-/

namespace Sys2Proof.Machine

/-! ## Contributions: they stand in the slot records -/

theorem putLadder_agrees (s : State) (z : Fin 8) : AgreeExcept [.slots] s (s.putLadder z) :=
  mapAsks_agrees s _

theorem releaseLadder_agrees (s : State) (z : Fin 8) : AgreeExcept [.slots] s (s.releaseLadder z) :=
  mapSlots_agrees s _

theorem recomputeDemand_agrees (s : State) : AgreeExcept [.sections] s s.recomputeDemand :=
  agree_foldl (fun t x => setSection_agrees t x _) _ s

theorem putCooling_agrees (s : State) : AgreeExcept [.slots] s s.putCooling := mapAsks_agrees s _

theorem putFansOf_agrees (s : State) (reached : BodySection → Bool) :
    AgreeExcept [.slots] s (s.putFansOf reached) :=
  mapAsks_agrees s _

theorem putBlower_agrees (s : State) : AgreeExcept [.slots] s s.putBlower := mapAsks_agrees s _

theorem putCurtain_agrees (s : State) (d : Fin 8) : AgreeExcept [.slots] s (s.putCurtain d) :=
  mapAsks_agrees s _

theorem putGlazing_agrees (s : State) (p : Fin 4) : AgreeExcept [.slots] s (s.putGlazing p) :=
  mapAsks_agrees s _

theorem putPanels_agrees (s : State) : AgreeExcept [.slots] s s.putPanels :=
  mapAsks_agrees s _

/-- A hand-off touches the contributions and the section records. -/
theorem Event.handOff_touches (e : Event) (z : Fin 8) :
    e.Touches [.slots, .sections] (e.handOff z) := by
  have base : AgreeExcept [.slots, .sections] e.st
      ((e.st.putLadder z).recomputeDemand.putCooling) :=
    (((putLadder_agrees _ _).mono (by simp)).trans
      ((recomputeDemand_agrees _).mono (by simp))).trans ((putCooling_agrees _).mono (by simp))
  unfold Event.handOff
  simp only [Event.Touches, Event.map_st]
  split
  · exact base.trans ((putBlower_agrees _).mono (by simp))
  · exact base.trans ((putFansOf_agrees _ _).mono (by simp))

/-! ## Compressor records -/

theorem Event.setCompressor_touches (e : Event) (x : BodySection) (r : CompressorRec) :
    e.Touches [.slots, .sections] (e.setCompressor x r) :=
  ((setSection_agrees _ _ _).mono (by simp)).trans ((putCooling_agrees _).mono (by simp))

theorem Event.lockCompressor_touches (e : Event) (x : BodySection) (len : LockLength) :
    e.Touches [.slots, .sections] (e.lockCompressor x len) :=
  e.setCompressor_touches x _

theorem Event.forceStop_touches (e : Event) (x : BodySection) (len : LockLength) :
    e.Touches [.slots, .sections] (e.forceStop x len) := by
  unfold Event.forceStop
  split
  · split
    · exact e.lockCompressor_touches x len
    · exact AgreeExcept.refl _ _
  · exact AgreeExcept.refl _ _

theorem Event.startCompressor_touches (e : Event) (x : BodySection) :
    e.Touches [.slots, .sections] (e.startCompressor x) := by
  unfold Event.startCompressor
  split
  · split
    · exact e.setCompressor_touches x _
    · exact AgreeExcept.refl _ _
  · exact AgreeExcept.refl _ _

theorem Event.stopUnwanted_touches (e : Event) (x : BodySection) :
    e.Touches [.slots, .sections] (e.stopUnwanted x) := by
  unfold Event.stopUnwanted
  split
  · split
    · exact e.lockCompressor_touches x _
    · exact AgreeExcept.refl _ _
  · exact AgreeExcept.refl _ _

/-! ## Requests and levels -/

/-- The parts that a level, a request or a grant may touch. -/
abbrev loadParts : List Part := [.slots, .sections, .rows, .plantLine]

theorem Event.followGrant_touches (e : Event) (i : Fin 32) (l : LoadEntry) (before : Nat) :
    e.Touches [.slots, .sections] (e.followGrant i l before) := by
  unfold Event.followGrant
  split
  · split
    · exact e.forceStop_touches _ _
    · split
      · exact e.startCompressor_touches _
      · exact AgreeExcept.refl _ _
  · exact AgreeExcept.refl _ _

theorem Event.handGrant_touches (e : Event) (i : Fin 32) :
    e.Touches loadParts (e.handGrant i) := by
  unfold Event.handGrant
  dsimp only
  split
  · exact AgreeExcept.refl _ _
  · split
    · exact AgreeExcept.refl _ _
    · exact AgreeExcept.trans (AgreeExcept.mono (Event.command_touches _ _ _) (by simp))
        (AgreeExcept.mono (Event.followGrant_touches _ _ _ _) (by simp))

theorem Event.putDampers_touches (e : Event) (reached : LoadPlace → Bool) :
    e.Touches loadParts (e.putDampers reached) := by
  refine touches_foldl (fun e i => ?_) _ e
  dsimp only
  split
  · split
    · exact AgreeExcept.mono (e.command_touches _ _) (by simp)
    · exact AgreeExcept.refl _ _
  · exact AgreeExcept.refl _ _

theorem Event.writeRequest_touches (e : Event) (i : Fin 32) :
    e.Touches loadParts (e.writeRequest i) := by
  unfold Event.writeRequest
  dsimp only
  split
  · exact AgreeExcept.refl _ _
  · have row (r : GrantRow) : AgreeExcept loadParts e.st (e.st.setRow i r) :=
      (setRow_agrees _ _ _).mono (by simp)
    split <;> split
    · exact (row _).trans (Event.handGrant_touches _ i)
    · exact (row _).trans (Event.handGrant_touches _ i)
    · exact row _
    · exact row _

theorem Event.settleAsks_touches (e : Event) : e.Touches loadParts e.settleAsks := by
  have stops : e.Touches loadParts (allSections.foldl (fun e x => e.stopUnwanted x) e) :=
    AgreeExcept.mono (touches_foldl (fun e x => e.stopUnwanted_touches x) _ e) (by simp)
  unfold Event.settleAsks
  dsimp only
  split
  · exact stops
  · exact stops.trans (AgreeExcept.mono (putPanels_agrees _) (by simp))

theorem Event.settleLoads_touches (e : Event) : e.Touches loadParts e.settleLoads :=
  e.settleAsks_touches.trans (touches_foldl (fun e i => e.writeRequest_touches i) _ _)

/-! ## Adoption of LOADS entries -/

/-- The parts that a budget pass may touch: it may adopt LOADS entries. -/
abbrev passParts : List Part := [.slots, .sections, .rows, .plantLine, .loads, .notices]

theorem dropGuarded_agrees (s : State) (i : Fin 32) :
    AgreeExcept [.plantLine] s { s with path := s.path.dropGuarded i } := by
  intro p hp
  cases p <;> simp [Part.same, State.zoneAt, FramePath.dropGuarded] at hp ⊢

theorem Event.adoptLoad_touches (e : Event) (i : Fin 32) (new : Option LoadEntry) :
    e.Touches passParts (e.adoptLoad i new) := by
  have freed (f : Event) (m : Bool) : f.Touches passParts
      (if m then f.map fun s => { s with path := s.path.dropGuarded i } else f) := by
    split
    · exact (dropGuarded_agrees _ i).mono (by simp)
    · exact AgreeExcept.refl _ _
  have slot (r : SlotRec) : AgreeExcept passParts e.st (e.st.setSlot i r) :=
    (setSlot_agrees _ _ _).mono (by simp)
  unfold Event.adoptLoad
  dsimp only
  split
  · split
    · exact AgreeExcept.refl _ _
    · exact ((slot _).trans (AgreeExcept.mono (Event.dropCommand_touches _ i) (by simp))).trans
        (freed _ _)
  · split
    · exact slot _
    · exact ((slot _).trans (AgreeExcept.mono (Event.placeCommand_touches _ i) (by simp))).trans
        (freed _ _)

theorem Event.rebindCompressor_touches (e : Event) (touched : Bool) (x : BodySection) :
    e.Touches passParts (e.rebindCompressor touched x) := by
  unfold Event.rebindCompressor
  split
  · exact AgreeExcept.mono (e.lockCompressor_touches x _) (by simp)
  · exact AgreeExcept.refl _ _

theorem recomputeAsks_agrees (s : State) : AgreeExcept [.slots, .sections] s s.recomputeAsks := by
  have one : AgreeExcept [.slots, .sections] s (allZones.foldl (fun s z => s.putLadder z) s) :=
    (agree_foldl (fun t z => putLadder_agrees t z) _ s).mono (by simp)
  have two (t : State) : AgreeExcept [.slots, .sections] t
      (((t.recomputeDemand.putCooling).putFans).putBlower) :=
    ((((recomputeDemand_agrees t).mono (by simp)).trans ((putCooling_agrees _).mono (by simp))).trans
      ((putFansOf_agrees _ _).mono (by simp))).trans ((putBlower_agrees _).mono (by simp))
  exact (one.trans (two _)).trans
    ((agree_foldl (fun t d => putCurtain_agrees t d) _ _).mono (by simp))

theorem formRequests_agrees (s : State) : AgreeExcept [.rows] s s.formRequests := by
  intro p hp
  cases p <;> simp [Part.same, State.zoneAt, State.formRequests] at hp ⊢

theorem clearPending_agrees (s : State) :
    AgreeExcept [.loads] s { s with actuator := { s.actuator with loadsPending := false } } := by
  intro p hp
  cases p <;> simp [Part.same, State.zoneAt] at hp ⊢

theorem Event.adoptLoads_touches (e : Event) : e.Touches passParts e.adoptLoads := by
  unfold Event.adoptLoads
  dsimp only
  refine AgreeExcept.trans ?_ ((formRequests_agrees _).mono (by simp))
  refine AgreeExcept.trans ?_ (AgreeExcept.mono (Event.settleAsks_touches _) (by simp))
  refine AgreeExcept.trans ?_ (AgreeExcept.mono (Event.putDampers_touches _ _) (by simp))
  refine AgreeExcept.trans ?_ ((recomputeAsks_agrees _).mono (by simp))
  refine AgreeExcept.trans ?_ ((clearPending_agrees _).mono (by simp))
  refine AgreeExcept.trans ?_ (touches_foldl (fun e _ => e.rebindCompressor_touches _ _) _ _)
  refine AgreeExcept.trans ?_ (touches_foldl (fun e _ => e.adoptLoad_touches _ _) _ _)
  exact AgreeExcept.mono (e.faults_touches _ _) (by simp)

/-! ## The pass and the end of an event -/

theorem allocate_agrees (s : State) : AgreeExcept [.rows] s s.allocate := by
  intro p hp
  cases p <;> simp [Part.same, State.zoneAt, State.allocate] at hp ⊢

theorem putLimited_agrees (s : State) : AgreeExcept [.limits] s s.putLimited := by
  intro p hp
  cases p <;> simp [Part.same, State.zoneAt, State.putLimited, ZoneRec.unlimited] at hp ⊢

theorem Event.budgetPass_touches (e : Event) : e.Touches passParts e.budgetPass := by
  have grants (f : Event) : f.Touches passParts
      (allSlots.foldl (fun e i => if (e.st.slotAt i).participates then e.handGrant i else e) f) := by
    refine touches_foldl (fun e i => ?_) _ f
    split
    · exact AgreeExcept.mono (e.handGrant_touches i) (by simp)
    · exact AgreeExcept.refl _ _
  have alloc (f : Event) : f.Touches passParts (f.map State.allocate) :=
    (allocate_agrees _).mono (by simp)
  unfold Event.budgetPass
  dsimp only
  split
  · exact (e.adoptLoads_touches.trans (alloc _)).trans (grants _)
  · exact (alloc _).trans (grants _)

theorem Event.endHold_touches (e : Event) : e.Touches loadParts e.endHold := by
  unfold Event.endHold
  dsimp only
  exact AgreeExcept.trans (touches_foldl (fun e i => e.handGrant_touches i) _ e)
    (Event.putDampers_touches _ _)

/-- The parts that the end of an event may touch. -/
abbrev finishParts : List Part :=
  [.slots, .sections, .rows, .plantLine, .loads, .notices, .limits, .vehicleLine]

theorem Event.settlePower_touches (e : Event) : e.Touches finishParts e.settlePower := by
  have loads (f : Event) : f.Touches finishParts f.settleLoads :=
    AgreeExcept.mono f.settleLoads_touches (by simp)
  have pass (f : Event) (b : Bool) : f.Touches finishParts (if b then f.budgetPass else f) := by
    split
    · exact AgreeExcept.mono f.budgetPass_touches (by simp)
    · exact AgreeExcept.refl _ _
  have hold (f : Event) : f.Touches finishParts (if f.holdEnded then f.endHold else f) := by
    split
    · exact AgreeExcept.mono f.endHold_touches (by simp)
    · exact AgreeExcept.refl _ _
  have again (f : Event) (b : Bool) : f.Touches finishParts (if b then f.settleLoads else f) := by
    split
    · exact loads f
    · exact AgreeExcept.refl _ _
  have flags (f : Event) (b : Bool) :
      f.Touches finishParts (if b then f.map State.putLimited else f) := by
    split
    · exact (putLimited_agrees _).mono (by simp)
    · exact AgreeExcept.refl _ _
  unfold Event.settlePower
  dsimp only
  refine AgreeExcept.trans ?_ (flags _ _)
  refine AgreeExcept.trans ?_ (again _ _)
  refine AgreeExcept.trans ?_ (hold _)
  refine AgreeExcept.trans ?_ (pass _ _)
  exact loads e

/-- The end of an event that may have changed contributions, requests or levels leaves every part
alone but the loads, the lines and the notice unit. -/
theorem Event.finish_agrees (e : Event) : AgreeExcept finishParts e.st e.finish :=
  AgreeExcept.trans e.settlePower_touches ((Event.done_agrees e.settlePower).mono (by simp))

end Sys2Proof.Machine
end

