-- ==== Sys2Proof/Tests/Slice0.lean ====
section
/-!
SUPPORT. Tests of the model: the well-formedness checks, the spec's worked examples one step at a time,
and for each statement a state that meets its hypotheses. Expected values come from the worked
sequences and tables of spec/ that the docstrings name.
-/

namespace Sys2Proof.Tests

open Sys2Proof Sys2Proof.Machine

set_option Elab.async false

/-! ## The rig -/

/-- The state a command answers with. -/
def after (c : Instr) (s : State) : State :=
  match exec c s with
  | .next t => t
  | .fault _ => State.reset
  | .refused _ => State.reset

/-- A frame without regard to its check. -/
def frameOf (stream : StreamId) (kind : FrameKind) (sequence : Byte) (payload : List Byte) : Frame :=
  { stream, kind, sequence, payload, check := 0, spare := 0 }

/-- The stream table of section 8.10 (its first, second, third and fifth entries). -/
def streams : List StreamRec :=
  [ { entry := { side := .vehicle, stream := 0x120, disposition := .takePass, role := .supply,
                 freshness := 10, guardSlot := 0 }, lastSequence := none, freshness := some 20000 },
    { entry := { side := .vehicle, stream := 0x302, disposition := .take, role := .door 2,
                 freshness := 20, guardSlot := 0 }, lastSequence := some 1, freshness := none },
    { entry := { side := .vehicle, stream := 0x3A9, disposition := .guarded, role := .none,
                 freshness := 0, guardSlot := 9 }, lastSequence := none, freshness := none },
    { entry := { side := .vehicle, stream := 0x500, disposition := .pass, role := .none,
                 freshness := 0, guardSlot := 0 }, lastSequence := none, freshness := none },
    { entry := { side := .plant, stream := 0x041, disposition := .take, role := .channel 17,
                 freshness := 20, guardSlot := 0 }, lastSequence := none,
      freshness := some 20000 } ]

/-- Channel 17 of section 7.8 at 2.2 s: FRESH with 1783 held. -/
def channel17 : ChannelRec :=
  { entry := { quantity := some .air, gain := 1100, offset := -150, low := -3000, high := 6000,
               maxStep := 50, grace := 30 }
    quality := .fresh, held := some 1783, forced := none, slewing := false, plausibleCount := 0,
    staleTimer := none }

/-- An OUTDOOR channel with a held value. -/
def outdoorChannel (value : Int) : ChannelRec :=
  { entry := { quantity := some .outdoor, gain := 1024, offset := 0, low := -4000, high := 8000,
               maxStep := 0, grace := 0 }
    quality := .fresh, held := some value, forced := none, slewing := false, plausibleCount := 0,
    staleTimer := none }

/-- Zone 2 of Case A (section 1.9), with channel 20 as its member and the ladder of section 2.3. -/
def zone2 : ZoneRec :=
  { resetZone
      { defaultZoneEntry with
        enabled := true, part := .b, members := [{ channel := 20, weight := 1 }], setMin := 1800,
        setMax := 2400, kp := 1280, ki := 16, kf := 96, tbal := 1800, kg := 256,
        bankMargin := 150, fallbackBias := 3150
        ladder := [{ slot := 4, share := 4000 }, { slot := 9, share := 6000 }] } 2 with
    i := 256000, passTimer := some 20000, bankTimer := some 20000, bankRelease := false }

/-- Zone 0, enabled in FALLBACK without members. -/
def zone0 : ZoneRec :=
  { resetZone { defaultZoneEntry with enabled := true, kf := 96, tbal := 1800, fallbackBias := 0 } 0
    with mode := .fallback, d := 2500, lastD := 2500, passTimer := some 20000 }

/-- A slot of the line pool. -/
def lineSlot (kind : LoadKind) (rated stages : Nat) (owner : Option (Fin 8 × Nat)) : SlotRec :=
  { resetSlot (some
      { kind, pool := .line, rated, stages, minLevel := 20, commandStream := 0x100,
        echoStream := some 0x200, refresh := 10, place := .body .a }) owner with
    refreshTimer := some 20000 }

/-- Door 2 of section 4.10, closed at dose 0. -/
def door2 : DoorRec :=
  { resetDoor { defaultDoorEntry with zone := some 2, curtain := some 1 } with
    stepTimer := some 20000 }

/-- An enabled panel in WATCH, with an evaluation due at 20 s. -/
def panel0 : PanelRec :=
  { resetPanel { defaultPanelEntry with enabled := true, humidity := some 21 } 0 with
    evalTimer := some 20000 }

/-- A controller at work at part time 10 s: the spec's worked examples side by side. -/
def rig : State :=
  { State.reset with
    partTime := 10000
    path := { State.reset.path with vehicleTx := none, plantSilence := some 20000 }
    classifier := { State.reset.classifier with table := streams }
    sample :=
      { channels := ((((State.reset.sample.channels.set 17 channel17).set 3
          (outdoorChannel (-1521))).set 8 (outdoorChannel (-1480))).set 30
          (outdoorChannel (-1610))).set 20
          { channel17 with held := some 1850, entry := { channel17.entry with grace := 0 } }
        outdoor := -1500, outdoorUnknown := false, outdoorExisted := true }
    zone := { State.reset.zone with
      zones := (State.reset.zone.zones.set 2 zone2).set 0 zone0 }
    actuator :=
      { State.reset.actuator with
        startHold := false
        slots := ((((((State.reset.actuator.slots.set 1 (lineSlot .curtain 45 3 none)).set 4
          (lineSlot .floorHeater 60 4 (some (2, 0)))).set 9
          (lineSlot .roofHeater 90 6 (some (2, 1)))).set 12 (lineSlot .fan 10 0 none)).set 15
          (lineSlot .cabBlower 15 0 none)).set 16 (lineSlot .compressor 120 0 none))
        sections := State.reset.actuator.sections.set 0
          { demand := 0, call := false
            compressor := some { state := .offReady, lock := .long, lockTimer := none,
                                 minRunTimer := none } } }
    budget := { State.reset.budget with
      state := .live, heldVoltage := 600, heldAllowance := 400, lineBudget := 400,
      periodTimer := some 20000 }
    door := { State.reset.door with doors := State.reset.door.doors.set 2 door2 }
    glazing := { State.reset.glazing with panels := State.reset.glazing.panels.set 0 panel0 }
    override :=
      { State.reset.override with
        entries :=
          [ { kind := .cabHeatMax, target := .cab, value := 0, origin := .depot,
              expiry := some 20000 },
            { kind := .setpointOffset, target := .zone 2, value := 100, origin := .console,
              expiry := some 30000 } ]
        statusTimer := some 20000 }
    notice := { State.reset.notice with raws := 0x208, statuses := 0, record := none
                                        depot := { raised := false, count := 0 } }
    agent := { State.reset.agent with
      service := some { allowClears := true, timer := some 20000 }
      storeOp := some { contents := defaultContents, sequence := 9, limit := 10400 }
      session := some { segment := 3, mode := .stop, cursor := 2, expected := 0, buffer := [],
                        completed := 1, timer := some 12000 } } }

/-! ## Well-formedness -/

/-- A frame with a payload of 15 bytes, one more than a length field allows (R143). -/
def tooLong : Frame := frameOf 0x120 .state 0 (List.replicate 15 0)

theorem test_long_sample_refused : (Instr.sampleFrame 0 tooLong).wellFormed = false := by decide
theorem test_long_door_refused : (Instr.doorFrame 0 tooLong).wellFormed = false := by decide
theorem test_long_supply_refused : (Instr.supplyFrame tooLong).wellFormed = false := by decide
theorem test_long_echo_refused : (Instr.echoFrame 0 tooLong).wellFormed = false := by decide

/-! ## Formats -/

/-- The header example of section 11.1. -/
theorem test_header :
    headerBytes (frameOf 0x120 .state 17 (List.replicate 7 0)) = [0x12, 0x02, 0x11, 0x70] := by
  decide

/-- The check of the nine ASCII digits under the polynomial and start value of R143, as published for
this check. -/
theorem test_check :
    checkOf [0x31, 0x32, 0x33, 0x34, 0x35, 0x36, 0x37, 0x38, 0x39] = 0x29B1 := by decide +kernel

/-- A frame whose length field is 15 is malformed (R144, R192). -/
theorem test_length_15 : parseFrame ([0x12, 0x02, 0x11, 0xF0] ++ List.replicate 17 0) = none := by
  decide +kernel

/-- A ZONES entry with the bytes of section 11.5 reads as Case A. -/
theorem test_zone_entry :
    ((readZone [1, 10, 20, 0xFF, 0xFF, 0xFF, 0, 0, 60, 120, 0x50, 0x01, 0x81, 0x00, 16, 72, 75, 126,
        0x22, 0x84, 0xBC, 0, 0, 0]).1) =
      { zone2.entry with part := .a } := by
  decide +kernel

/-! ## Arithmetic -/

/-- The rounding of Case A: 1237.5 under CHOP and NEAREST. -/
theorem test_rounding :
    Rounding.chop.div 316800 256 = 1237 ∧ Rounding.nearest.div 316800 256 = 1238 ∧
      divTowardZero (-4400000) 1024 = -4296 ∧ divTowardZero (-3131) 2 = -1565 := by
  decide

/-- The dew points of section 5.3. -/
theorem test_dew_point :
    dewPoint defaultDew 4250 2500 = 1103 ∧ dewPoint defaultDew 6500 1800 = 1134 := by
  decide +kernel

/-- The allocation of section 3.8 at 300 pu, for slots 0, 1, 4, 7 and 12. -/
def loads38 : List PoolLoad :=
  [ ⟨0, 20, 1, false, 10⟩, ⟨1, 45, 2, false, 15⟩, ⟨2, 45, 2, false, 15⟩, ⟨4, 60, 3, false, 15⟩,
    ⟨6, 60, 3, false, 15⟩, ⟨7, 90, 3, false, 15⟩, ⟨9, 90, 3, false, 15⟩, ⟨12, 8, 3, false, 2⟩,
    ⟨13, 8, 3, false, 2⟩, ⟨14, 8, 3, false, 2⟩ ]

theorem test_allocation :
    loads38.map (poolGrant 300 loads38) = [20, 45, 45, 35, 35, 52, 52, 4, 4, 4] := by decide

/-- The ladder of section 2.3: at D = 7347 slot 4 is asked 60 and slot 9 is asked 51. -/
theorem test_ladder :
    rig.fillLadder 2 0 7347 zone2.entry.ladder = [(4, 60), (9, 51)] := by decide +kernel

/-! ## The commands -/

/-- A POWER_ON with nothing ever stored is the state after reset (R188). -/
theorem test_power_on :
    after (.powerOn 0) { rig with agent := { rig.agent with storeOp := none } } = State.reset := by
  decide +kernel

/-- While the reset input is held a power-up sends nothing (R188). -/
theorem test_power_on_held :
    let t := after (.powerOn 0) { rig with pins := { rig.pins with resetHeld := true } }
    (t.path.vehicleTx, t.path.plantTx, t.path.vehicleQueue, t.path.commandSet, t.partTime) =
      (none, none, [], [], 0) := by
  decide +kernel

/-- A LINE reset reads the straps and records its cause (R188, R189). -/
theorem test_line_reset :
    ((after (.lineReset 5) rig).path.node, (after (.lineReset 5) rig).agent.cause) =
      (5, ResetCause.line) := by
  decide +kernel

/-- The first frame of section 8.10 is received, and an unusable one raises FRAME_ERROR. -/
def supplyBytes : List Byte :=
  frameBytes (makeFrame 0x120 .state 17 [0x02, 0x58, 1, 0x01, 0x90, 0, 0])

theorem test_reception :
    ((after (.frameReception .vehicle supplyBytes) rig).path.vehicleRx.map Frame.stream,
      (after (.frameReception .vehicle [1, 2, 3]) rig).notice.raw .frameError) =
      ([0x120], true) := by
  decide +kernel

/-- PLANT_SILENT becomes true at the moment of the expiry (R145). -/
theorem test_plant_silence :
    let t := after .plantSilenceExpiry rig
    (t.partTime, t.path.plantSilent, t.notice.raw .plantSilent) = (20000, true, true) := by
  decide +kernel

/-- A received frame at a port. -/
def withFrame (s : State) (port : Port) (f : Frame) : State :=
  { s with path := s.path.setReceived port [f] }

/-- Section 8.10: the supply frame is taken and forwarded. -/
theorem test_classify_take_pass :
    let f := frameOf 0x120 .state 17 [0x02, 0x58, 1, 0x01, 0x90, 0, 0]
    let t := after (.classifyFrame .vehicle) (withFrame rig .vehicle f)
    (t.classifier.handed.map Handed.event, t.path.plantTx, t.path.vehicleRx) =
      ([.supplyFrame f], some f, []) := by
  decide +kernel

/-- Section 8.10: on the vehicle port an own stream with another kind than MANAGE has no entry and is
dropped. -/
theorem test_classify_drop :
    let t := after (.classifyFrame .vehicle) (withFrame rig .vehicle (frameOf 0xE00 .state 6 []))
    (t.path.plantTx, t.path.forwardQueue, t.classifier.handed) = (none, [], []) := by
  decide +kernel

/-- The expiry of channel 17's stream is handed on (R154). -/
theorem test_freshness :
    (after (.freshnessExpiry .plant 0x041) rig).classifier.handed.map Handed.event =
      [.channelFreshnessExpiry 17] := by
  decide +kernel

/-- Section 7.8 at 2.2 s: raw 1850 scales to 1837, which is 54 from 1783 and clamps to 1833. -/
theorem test_sample_slews :
    let t := (after (.sampleFrame 17 (frameOf 0x041 .sample 0 [0x07, 0x3A])) rig).channelAt 17
    (t.held, t.slewing, t.quality) = (some 1833, true, Quality.fresh) := by
  decide +kernel

/-- Section 7.8 at 41.0 s: raw -4000 is implausible, with its notice and fault. -/
theorem test_sample_implausible :
    let t := after (.sampleFrame 17 (frameOf 0x041 .sample 0 [0xF0, 0x60])) rig
    ((t.channelAt 17).quality, t.notice.raw .channelImplausible,
      t.notice.record.map fun r => (r.code, r.index)) =
      (Quality.implausible, true, some (FaultCode.channelImplausible, 17)) := by
  decide +kernel

/-- Section 7.8 at 5.2 s: STALE with the timer at 30 s. -/
theorem test_channel_stale :
    let t := (after (.channelFreshnessExpiry 17) rig).channelAt 17
    (t.quality, t.held, t.staleTimer) = (Quality.stale, some 1783, some 40000) := by
  decide +kernel

/-- A rig with channel 17 STALE. -/
def staleRig : State :=
  rig.setChannel 17 { channel17 with quality := .stale, staleTimer := some 40000 }

/-- Section 7.8 at 35.2 s: LOST. -/
theorem test_channel_lost :
    let t := after (.staleTimerExpiry 17) staleRig
    ((t.channelAt 17).quality, (t.channelAt 17).held, t.notice.raw .channelLost, t.partTime) =
      (Quality.lost, some 1783, true, 40000) := by
  decide +kernel

/-- Section 7.8, outdoor sources: a median of three. -/
theorem test_outdoor :
    (after (.sampleFrame 8 (frameOf 0 .sample 0 [0xFA, 0x38])) rig).sample.outdoor = -1521 := by
  decide +kernel

/-- Section 4.10 at 100.2 s: the opening sets door hold and asks stage 3, 45 pu at class 2. -/
theorem test_door_opens :
    let t := after (.doorFrame 2 (frameOf 0x302 .state 2 [1])) rig
    ((t.zoneAt 2).doorHold, (t.rowAt 1).request, (t.rowAt 1).cls, (t.slotAt 1).commanded) =
      (true, 45, 2, 3) := by
  decide +kernel

/-- A rig with door 2 open and holding. -/
def openRig : State :=
  (rig.setDoor 2 { door2 with recorded := .opened, holding := true, openTime := 9500,
                              dose := 4142 }).setHold 2 true

/-- Section 4.10 at 110.2 s: the closing starts the hold-over of 10 s and keeps the dose. -/
theorem test_door_closes :
    let t := after (.doorFrame 2 (frameOf 0x302 .state 2 [0])) openRig
    ((t.zoneAt 2).doorHold, t.holdOverAt 2, (t.doorAt 2).openTime, (t.doorAt 2).dose) =
      (true, some 20000, 0, 4142) := by
  decide +kernel

/-- A stale door counts as closed and raises DOOR_STATE_LOST (R88). -/
theorem test_door_stale :
    let t := after (.doorStale 2) openRig
    ((t.doorAt 2).isOpen, (t.doorAt 2).recorded, t.notice.raw .doorStateLost) =
      (false, DoorState.opened, true) := by
  decide +kernel

/-- Section 4.10 at 110.0 s: the twentieth step of the opening. -/
theorem test_door_step :
    let t := after (.doorStep 2) openRig
    ((t.doorAt 2).openTime, (t.doorAt 2).dose, (t.zoneAt 2).g) = (10000, 4360, 4360) := by
  decide +kernel

/-- Section 4.10 at 120.2 s: the hold-over ends the door hold. -/
theorem test_hold_over :
    let t := after (.holdOverExpiry 2) ((rig.setHold 2 true).setHoldOver 2 (some 15000))
    ((t.zoneAt 2).doorHold, t.holdOverAt 2, t.partTime) = (false, none, 15000) := by
  decide +kernel

/-- Section 3.3: V = 430 in LIVE moves to SAG, with floor(400 × 180 / 250) pu. -/
theorem test_supply_sag :
    let t := after (.supplyFrame (frameOf 0x120 .state 1 [0x01, 0xAE, 1, 0x01, 0x90, 0, 0])) rig
    (t.budget.state, t.budget.lineBudget, t.notice.raw .supplyReduced) =
      (SupplyState.sag, 288, true) := by
  decide +kernel

/-- A surplus of 30 begins banking in the zones with a bank margin (R22, R61, R63). -/
theorem test_supply_banking :
    let t := after (.supplyFrame (frameOf 0x120 .state 1 [0x02, 0x58, 1, 0x01, 0x90, 0, 30])) rig
    (t.budget.banking, t.budget.lineBudget, (t.zoneAt 2).banking, (t.zoneAt 0).banking) =
      (true, 430, true, false) := by
  decide +kernel

/-- A silent supply stream is a lost line (R59, R60). -/
theorem test_supply_stale :
    let t := after .supplyFreshnessExpiry rig
    (t.budget.state, t.budget.lineBudget, (t.sectionAt .a).compressor.map CompressorRec.state,
      t.notice.record.map FaultRec.code) =
      (SupplyState.dewired, 0, some CompressorState.offLocked, some FaultCode.supplyStale) := by
  decide +kernel

/-- A rig in a supply state, with its timer due at 11 s. -/
def supplyRig (x : SupplyState) : State :=
  { rig with
    budget := { rig.budget with
      state := x, lineBudget := 0
      settleTimer := if x = .returning then some 11000 else none
      gapTimer := if x = .gap then some 11000 else none } }

theorem test_settle :
    let t := after .settleExpiry (supplyRig .returning)
    (t.budget.state, t.budget.ramp, t.budget.lineBudget) = (SupplyState.live, some 0, 0) := by
  decide +kernel

theorem test_gap :
    let t := after .gapExpiry (supplyRig .gap)
    (t.budget.state, (t.sectionAt .a).compressor.map CompressorRec.lockTimer, t.partTime) =
      (SupplyState.dewired, some (some 191000), 11000) := by
  decide +kernel

/-- Section 3.4: a ramp ceiling of 0 rises to 20 (R62). -/
theorem test_ramp :
    let t := after .budgetPeriodExpiry
      { rig with budget := { rig.budget with ramp := some 0, lineBudget := 0 } }
    (t.budget.ramp, t.budget.lineBudget, t.budget.periodTimer) = (some 20, 20, some 20250) := by
  decide +kernel

/-- A rig with compressor A in a state, its timer due at 11 s. -/
def compressorRig (x : CompressorState) : State :=
  rig.setSection .a
    { demand := 0, call := false
      compressor := some
        { state := x, lock := .long
          lockTimer := if x = .offLocked then some 11000 else none
          minRunTimer := if x = .runMin then some 11000 else none } }

/-- Without demand the compressor stops at the end of its minimum run, under the long lock of 180 s
(R36, R37). -/
theorem test_minimum_run :
    (after (.minimumRunExpiry .a) (compressorRig .runMin)).sectionAt .a =
      { demand := 0, call := false
        compressor := some { state := .offLocked, lock := .long, lockTimer := some 191000,
                             minRunTimer := none } } := by
  decide +kernel

theorem test_lock :
    ((after (.lockExpiry .a) (compressorRig .offLocked)).sectionAt .a).compressor.map
      CompressorRec.state = some .offReady := by
  decide +kernel

/-- Compressor A's lock ends while panel 0 demists in mild air: besides the compressor, the cab blower that
no evaluation has reached is asked its 70 percent in the event (R102, R104). -/
theorem test_lock_recomputes_panels :
    let s := (compressorRig .offLocked).setPanel 0 { panel0 with state := .demist }
    let t := after (.lockExpiry .a) { s with sample := { s.sample with outdoor := 900 } }
    ((t.slotAt 16).asks.glazing.get 0, (t.slotAt 15).asks.glazing.get 0, (t.rowAt 15).request) =
      (some (.level 30), some (.level 70), 11) := by
  decide +kernel

/-- A rig without setpoint overrides, as Case A has it. -/
def caseRig : State := { rig with override := { rig.override with entries := [] } }

/-- Case A of section 1.9. -/
theorem test_zone_case_a :
    let t := (after (.zonePass 2) caseRig).zoneAt 2
    (t.e, t.p, t.f, t.i, t.d, t.satCount) = (some 150, some 750, 1237, 258400, 2996, 0) := by
  decide +kernel

/-- Case D of section 1.9, with zone 2's Kf and Tbal: without a member zone 2 falls back on
1050 + 3150 at To = -1000, and keeps I. -/
theorem test_zone_case_d :
    let s := { caseRig with sample := { caseRig.sample with outdoor := -1000 } }
    let t := (after (.zonePass 2)
      (s.setChannel 20 { channel17 with quality := .lost })).zoneAt 2
    (t.mode, t.tm, t.f, t.d, t.lastD, t.i) = (ZoneMode.fallback, none, 1050, 4200, 4200, 256000) := by
  decide +kernel

theorem test_bank_release :
    ((after (.bankReleaseExpiry 2) (rig.setZone 2 { zone2 with bankRelease := true })).zoneAt
      2).bankRelease = false := by
  decide +kernel

/-- The evaluation of section 5.3: Ta = 1800, RH = 6500, To = -500. -/
def panelRig : State :=
  ({ rig with sample := { rig.sample with outdoor := -500 } }.setZone 0
      { zone0 with mode := .regulate, tm := some 1800 }).setChannel 21
    { channel17 with
      entry := { channel17.entry with quantity := some .humidity }, held := some 6500 }

theorem test_panel_reading :
    panelRig.panelInputs panel0.entry = { margin := some (-1059), ice := false } := by
  decide +kernel

/-- Section 5.3: the panel enters DEMIST, and asks the cab blower 70 percent (R98, R102). -/
theorem test_panel_demist :
    let t := after (.panelEvaluation 0) panelRig
    ((t.panelAt 0).state, (t.panelAt 0).escalateTimer, (t.zoneAt 0).boost, (t.rowAt 15).request,
      (t.rowAt 15).cls) =
      (PanelState.demist, some 140000, true, 11, 0) := by
  decide +kernel

/-- Case E of section 1.9: the defrost floor raises D from 2500 to 6000. -/
theorem test_escalate :
    let t := after (.escalateExpiry 0)
      (rig.setPanel 0 { panel0 with state := .demist, escalateTimer := some 15000 })
    ((t.panelAt 0).state, (t.zoneAt 0).d, (t.zoneAt 0).lastD, (t.zoneAt 0).floor) =
      (PanelState.defrost, 6000, 6000, true) := by
  decide +kernel

theorem test_run_on :
    let t := after (.runOnExpiry 0)
      (rig.setPanel 0 { panel0 with state := .runOn, origin := some .defrost,
                                    runOnTimer := some 15000 })
    ((t.panelAt 0).state, (t.panelAt 0).origin, (t.zoneAt 0).floor) =
      (PanelState.watch, none, false) := by
  decide +kernel

/-- A rig whose slot 4 has missed two echoes. -/
def mismatchRig : State :=
  rig.setSlot 4 { lineSlot .floorHeater 60 4 (some (2, 0)) with commanded := 2, mismatch := 2 }

/-- Section 2.7: the third mismatch faults the slot, which is commanded 0 (R47, R48). -/
theorem test_refresh_faults :
    let t := after (.refreshExpiry 4) mismatchRig
    ((t.slotAt 4).state, (t.slotAt 4).commanded, (t.slotAt 4).refreshTimer,
      t.path.plantTx.map Frame.payload, t.notice.raw .actuatorFault) =
      (SlotState.faulted, 0, some 21000, some [0], true) := by
  decide +kernel

theorem test_echo :
    ((after (.echoFrame 4 (frameOf 0x200 .state 0 [2])) rig).slotAt 4).echoed = some 2 := by
  decide +kernel

/-- A SET of SETPOINT_OFFSET for zone 2 by the console: limited to 300, for 60 min (R110, R114). -/
theorem test_set :
    let u := (after (.set 0 2 500 0) rig).override
    (u.entries.getLast?, u.lastResult, u.revision) =
      (some { kind := .setpointOffset, target := .zone 2, value := 300, origin := .console,
              expiry := some 3610000 }, OverrideResult.replaced, 1) := by
  decide +kernel

/-- The console may not replace a depot entry (R114). -/
theorem test_set_refused :
    let t := after (.set 6 0x13 0 0) rig
    (t.override.lastResult, t.override.revision, t.notice.raw .overrideRefused) =
      (OverrideResult.refusedInvalid, 0, true) := by
  decide +kernel

theorem test_cancel :
    let u := (after (.cancel 0 2) rig).override
    (u.entries.map OverrideEntry.kind, u.lastResult) =
      ([OverrideKind.cabHeatMax], OverrideResult.cancelled) := by
  decide +kernel

theorem test_cancel_all :
    let u := (after .cancelAll rig).override
    (u.entries.map OverrideEntry.kind, u.lastResult, u.revision) =
      ([OverrideKind.cabHeatMax], OverrideResult.cancelled, 1) := by
  decide +kernel

/-- Section 9.7: the acknowledgement reaches OVERRIDE_REFUSED and GLAZING_ACTIVE, enabled for CAB
alone, and both destinations send SUPPLY_DEWIRED. -/
def tripRig : State :=
  let s := (supplyRig .dewired).setPanel 0 { panel0 with state := .demist }
  { s with
    notice := { s.notice with
      entry := { cabMask := 0x0200C1, depotMask := 0x409081, storeUnmasked := false }
      raws := 0x020241, statuses := 0x020041
      cab := { raised := true, count := 1 }, depot := { raised := true, count := 1 } } }

theorem test_ack :
    let t := after .ackNotices tripRig
    (t.notice.statuses, t.notice.raw .overrideRefused, t.notice.raw .glazingActive, t.notice.cab.count,
      t.notice.depot.count) = (1, false, true, 2, 2) := by
  decide +kernel

theorem test_override_expiry :
    let t := after (.overrideExpiry 6 0x13) rig
    (t.override.entries.map OverrideEntry.kind, t.partTime, t.notice.raw .overrideExpired) =
      ([OverrideKind.setpointOffset], 20000, true) := by
  decide +kernel

/-- A sending of the header and two entries (R125, R195). -/
theorem test_status_timer :
    let t := after .statusTimerExpiry rig
    (t.path.vehicleTx.map (fun f => (f.frame.stream, f.frame.payload)),
      t.path.vehicleQueue.length, t.override.statusSequence) =
      (some (0xE20, [0xFF, 2, 0, 0]), 2, 3) := by
  decide +kernel

/-- A transmission completes and the next frame begins (R157). -/
theorem test_vehicle_tx :
    let f := frameOf 0x777 .state 3 []
    let s := { rig with path := { rig.path with
      vehicleTx := some (ownFrame tooLong), vehicleQueue := [ownFrame f] } }
    ((after .vehicleTxCompletion s).path.vehicleTx, (after .vehicleTxCompletion s).path.vehicleQueue) =
      (some (ownFrame f), []) := by
  decide +kernel

/-- Section 8.10, the plant transmitter: after four commands in a row a forwarded frame goes. -/
theorem test_plant_tx :
    let f := frameOf 0x777 .state 3 []
    let s := { rig with path := { rig.path with
      plantTx := some tooLong, runCount := 4, forwardQueue := [{ frame := f, guardSlot := none }]
      commandSet := [{ slot := 14, frame := tooLong }] } }
    ((after .plantTxCompletion s).path.plantTx, (after .plantTxCompletion s).path.runCount) =
      (some f, 0) := by
  decide +kernel

/-- A session with a completed entry breaks: LOAD_BROKEN, the modified flag, pending contents (R183).
-/
theorem test_session_timer :
    let t := after .sessionTimerExpiry { rig with agent := { rig.agent with modified := 0 } }
    (t.agent.session, t.agent.modified, t.zone.schedulePending, t.notice.raw .loadBroken) =
      (none, 8, true, true) := by
  decide +kernel

theorem test_store :
    let t := after .storeCompletion rig
    (t.agent.stored, t.agent.storeOp, t.path.vehicleTx.map fun f => f.frame.payload) =
      (.whole defaultContents, none, some [8, 0]) := by
  decide +kernel

/-- Service mode ends: forced channels and manual slots are released (R186). -/
def serviceRig : State :=
  (rig.setChannel 8 { outdoorChannel (-1480) with quality := .forced, forced := some (-1550) }).setSlot 9
    { lineSlot .roofHeater 90 6 (some (2, 1)) with manual := true, refreshTimer := none }

theorem test_inactivity :
    let t := after .inactivityExpiry serviceRig
    (t.agent.service, (t.channelAt 8).quality, (t.slotAt 9).manual, t.path.plantTx.map Frame.payload) =
      (none, Quality.absent, false, some [0]) := by
  decide +kernel

/-- Two forced sources of three are released in one event, and the third counts alone; with none left
the outdoor value holds the last one that existed (R139, R140, R186). -/
theorem test_inactivity_outdoor :
    let forced (v : Int) := { outdoorChannel 0 with quality := .forced, forced := some v }
    let s := { (rig.setChannel 3 (forced (-1000))).setChannel 8 (forced (-2000)) with
      agent := rig.agent }
    let lost := s.setChannel 30 ((outdoorChannel 0).toLost)
    ((after .inactivityExpiry s).sample.outdoor, (after .inactivityExpiry lost).sample.outdoor,
      (after .inactivityExpiry lost).sample.outdoorUnknown) = (-1610, -1500, true) := by
  decide +kernel

theorem test_undefined_action :
    let t := after .undefinedConsoleAction rig
    (t.override.lastResult, t.notice.raw .overrideRefused) =
      (OverrideResult.refusedInvalid, true) := by
  decide +kernel

theorem test_supply_down :
    (after .supplyDown rig).running = false ∧
      after (.zonePass 2) (after .supplyDown rig) = after .supplyDown rig := by
  decide +kernel

theorem test_reset_input :
    (after .resetInputHeld rig).pins = { supplyUp := true, resetHeld := true, straps := 0 } := by
  decide +kernel

/-- A management request outside a session: IDENTIFY answers the part code, the revision and the node
(R176, R178). -/
theorem test_identify :
    let s := { rig with agent := { rig.agent with session := none } }
    let t := after (.classifyFrame .vehicle) (withFrame s .vehicle (frameOf 0xE00 .manage 5 [1]))
    t.path.vehicleTx.map (fun f => (f.frame.stream, f.frame.sequence, f.frame.payload)) =
      some (0xE08, 5, [1, 0, 0x5C, 0x24, 3, 0]) := by
  decide +kernel

/-- Section 10.5: slot 9 is taken while 90 pu and the class 0 requests fit in the line pool. -/
theorem test_manual_take :
    let s := { rig with agent := { rig.agent with session := none } }
    let t := after (.classifyFrame .vehicle) (withFrame s .vehicle (frameOf 0xE00 .manage 5 [0x0D, 9]))
    ((t.slotAt 9).manual, (t.rowAt 9).request, (t.rowAt 9).cls, (t.rowAt 9).grant) =
      (true, 90, 0, 90) := by
  decide +kernel

/-! ## Witnesses: for each statement with hypotheses, states and operands that meet them -/

/-- The rig with commands waiting. -/
def queued (l : List Instr) : State := { rig with pending := l }

theorem witness_RoundingWords : (0 : Int) < 256 ∧ (-4000 : Int) ≤ 8000 := by decide

theorem witness_FrameRoundTrip :
    let f := makeFrame 0x120 .state 17 (List.replicate 14 0xA5)
    f.payload.length ≤ 14 ∧ f.check = checkOf (headerBytes f ++ f.payload) := by
  decide +kernel

theorem witness_StepTakesTheFront :
    ∃ (c : Instr) (rest : List Instr) (s : State), s.pending = c :: rest :=
  ⟨.zonePass 2, [.cancelAll], queued [.zonePass 2, .cancelAll], rfl⟩

theorem witness_StepOnAnEmptyQueue :
    (rig.pending = [] ∧ rig.running = true ∧ rig.classifier.handed = [] ∧
        ∀ x ∈ rig.timers, { rig with partTime := 100 }.due x.1 = false) ∧
      ({ rig with partTime := 20000 }.timers.find?
        fun x => { rig with partTime := 20000 }.due x.1) = some (some 20000, .plantSilenceExpiry) ∧
      (rig.hand none (some (.doorStale 2))).classifier.handed =
        [{ port := none, event := .doorStale 2 }] ∧
      { rig with pins := { rig.pins with resetHeld := true } }.running = false := by
  decide +kernel

theorem witness_InertWithoutSupply :
    ∃ (c : Instr) (s : State), s.running = false ∧ c ≠ .storeCompletion ∧
      (∀ straps, c ≠ .powerOn straps) ∧ (∀ straps, c ≠ .lineReset straps) ∧ c ≠ .supplyDown ∧
      c ≠ .resetInputHeld :=
  ⟨.zonePass 2, after .resetInputHeld rig, by decide +kernel⟩

theorem witness_PinsGoDown : (after .supplyDown rig).pins.supplyUp = false := by decide +kernel

/-- A rig whose transmitter sends the marked reply to RESTART. -/
def restartRig : State :=
  { rig with
    path := { rig.path with vehicleTx := some { frame := tooLong, restartReply := true } } }

/-- The ZONES entry of Case A in section 11.5. -/
def zoneBytes : List Byte :=
  [1, 10, 20, 0xFF, 0xFF, 0xFF, 0, 0, 60, 120, 0x50, 0x01, 0x81, 0x00, 16, 72, 75, 126, 0x22, 0x84,
    0xBC, 0, 0, 0]

/-- Contents in which zones 0 and 1 name the slots of one ladder. -/
def claimedContents : Contents :=
  defaultContents.modify SegmentId.zones fun l => (l.set 0 zoneBytes).set 1 zoneBytes

/-- The rig with those contents in the store. -/
def claimedRig : State :=
  { restartRig with agent := { rig.agent with stored := .whole claimedContents, storeOp := none } }

/-- Resets of each kind; and one that adopts the ladder of Case A for zones 0 and 1 alike. -/
theorem witness_ResetSetsTheRecords :
    (let t := after (.powerOn 0) claimedRig
    ((t.slotAt 4).owner, (t.slotAt 9).owner, t.notice.record.map fun r => (r.code, r.index)) =
      (some (0, 0), some (0, 1), some (.tableInconsistent, 4))) ∧
    restartRig.pins.supplyUp = true ∧ restartRig.running = true ∧
      restartRig.path.vehicleTx = some { frame := tooLong, restartReply := true } := by
  decide +kernel

/-- A rig with a whole copy in the store and no operation running. -/
def storedRig : State :=
  { restartRig with
    agent := { rig.agent with stored := .whole defaultContents, storeOp := none } }

/-- A rig with a fault in its record. -/
def faultRig : State :=
  { restartRig with
    notice := { rig.notice with
      record := some
        { code := .supplyStale, index := 0, time := 0, supply := .live, further := true } } }

/-- A whole copy that is clean and one that is not, a store without one, and the fault records that a
RESTART keeps and finds empty. -/
theorem witness_ResetKinds :
    (cleanContents defaultContents ∧ ¬ cleanContents claimedContents ∧
      claimedRig.agent.stored = .whole claimedContents ∧ claimedRig.agent.storeOp = none ∧
      restartRig.notice.record = none ∧
      (after (.powerOn 0) storedRig).notice.record = none ∧
      (after (.powerOn 0) claimedRig).notice.raw .faultRecorded = true) ∧
    (storedRig.agent.stored = .whole defaultContents ∧ storedRig.agent.storeOp = none) ∧
      restartRig.agent.storeOp ≠ none ∧ restartRig.agent.stored = .never ∧
      faultRig.notice.record ≠ none := by
  unfold cleanContents
  decide +kernel

/-- A rig with this many frames in every queue of the two ports. -/
def crowded (n : Nat) : State :=
  { rig with
    path := { rig.path with
      vehicleRx := List.replicate n tooLong
      plantRx := List.replicate n tooLong
      vehicleTx := some (ownFrame tooLong)
      plantTx := some tooLong
      vehicleQueue := List.replicate n (ownFrame tooLong)
      forwardQueue := List.replicate n { frame := tooLong, guardSlot := none } } }

theorem witness_FramesAreReceived :
    rig.running = true ∧ parseFrame [1, 2, 3] = none ∧ (parseFrame supplyBytes).isSome ∧
      ((crowded 15).path.received .plant).length < 16 ∧
      16 ≤ ((crowded 16).path.received .plant).length := by
  decide +kernel

/-- The supply frame of section 8.10. -/
def supply17 : Frame := frameOf 0x120 .state 17 [0x02, 0x58, 1, 0x01, 0x90, 0, 0]

theorem witness_FrameIsTaken :
    ∃ (port : Port) (f : Frame) (rest : List Frame) (x : StreamRec) (c : Instr) (s : State),
      s.running = true ∧ s.path.received port = f :: rest ∧ s.ordinary port f ∧
      s.classifier.find port f.stream = some x ∧ x.lastSequence ≠ some f.sequence ∧
      x.entry.disposition = .take ∧ x.entry.role.frameEvent f = some c := by
  refine ⟨.plant, frameOf 0x041 .sample 200 [7, 8], [], streams[4],
    .sampleFrame 17 (frameOf 0x041 .sample 200 [7, 8]),
    withFrame rig .plant (frameOf 0x041 .sample 200 [7, 8]), ?_⟩
  unfold State.ordinary
  decide +kernel

/-- A frame is forwarded at the last free place and past it, by each kind of entry: PASS, TAKE_PASS, a
GUARD open to a MANUAL slot, and the default of the plant port. -/
theorem witness_FrameIsForwarded :
    (let f := frameOf 0x500 .state 3 []
      let s := withFrame (crowded 15) .vehicle f
      s.running = true ∧ s.path.received .vehicle = [f] ∧ s.ordinary .vehicle f ∧
        s.path.forwardQueue.length = 15 ∧ s.forwards .vehicle f none []) ∧
      (let s := withFrame rig .vehicle supply17
      s.ordinary .vehicle supply17 ∧ s.forwards .vehicle supply17 none
        [{ port := some .vehicle, event := .supplyFrame supply17 }]) ∧
      (let f := frameOf 0x3A9 .command 3 [50]
      let s := withFrame serviceRig .vehicle f
      s.ordinary .vehicle f ∧ s.forwards .vehicle f (some 9) []) ∧
      ∀ n ∈ [15, 16],
        let f := frameOf 0x777 .state 3 []
        let s := withFrame (crowded n) .plant f
        s.path.received .plant = [f] ∧ s.ordinary .plant f ∧ s.path.vehicleQueue.length = n ∧
          s.path.vehicleTx ≠ none ∧ s.forwards .plant f none [] := by
  unfold State.ordinary
  refine ⟨⟨?_, ?_, ?_, ?_, .inr ⟨streams[3], ?_, ?_, .inl ?_⟩⟩,
    ⟨?_, .inr ⟨streams[0], ?_, ?_, .inr (.inl ?_)⟩⟩,
    ⟨?_, .inr ⟨streams[2], ?_, ?_, .inr (.inr ?_)⟩⟩, fun n h => ⟨?_, ?_, ?_, ?_, .inl ?_⟩⟩ <;>
    first | decide +kernel | (revert n; decide +kernel)

/-- The rig with its stream entries under another disposition and without roles. -/
def mutedRig (disposition : Disposition) : State :=
  { rig with
    classifier := { rig.classifier with
      table := streams.map fun x => { x with entry := { x.entry with disposition, role := .none } } } }

/-- An empty queue; a repeated frame; no entry under a default DROP; a DROP entry, a TAKE entry without
a role, and a closed GUARD; a frame of an own stream on the plant port; and, with level raws that follow,
plant lines that are busy and that have nothing to send. -/
theorem witness_FrameIsDiscarded :
    rig.path.received .plant = [] ∧ isOwnStream rig.path.node 0xE10 = true ∧
      (let f := frameOf 0x302 .state 1 [1]
      let s := withFrame rig .vehicle f
      s.path.received .vehicle = [f] ∧ s.ordinary .vehicle f ∧
        (s.classifier.find .vehicle f.stream).map StreamRec.lastSequence = some (some f.sequence)) ∧
      (let f := frameOf 0xE00 .state 6 []
      let s := withFrame rig .vehicle f
      s.ordinary .vehicle f ∧ s.classifier.find .vehicle f.stream = none ∧
        s.classifier.passes .vehicle = false) ∧
      (let f := frameOf 0x041 .sample 200 [7, 8]
      (withFrame (mutedRig .drop) .plant f).ordinary .plant f ∧
        ((mutedRig .drop).classifier.find .plant f.stream).map StreamRec.lastSequence = some none ∧
        ((mutedRig .drop).classifier.find .plant f.stream).map (·.entry.disposition) = some .drop ∧
        ((mutedRig .take).classifier.find .plant f.stream).map
          (fun x => (x.entry.disposition, x.entry.role.frameEvent f)) = some (.take, none)) ∧
      (rig.slotAt 9).manual = false ∧ (streams[2]).entry.disposition = .guarded ∧
      (∀ s ∈ [rig, crowded 16], s.levelsFollow) ∧ (crowded 16).path.plantTx ≠ none ∧
      rig.path.commandSet = [] ∧ rig.path.forwardQueue = [] := by
  unfold State.ordinary State.levelsFollow
  decide +kernel

theorem witness_SilenceTimersExpire :
    ∃ (at_ : PartTime) (s : State) (side : Port) (stream : StreamId) (x : StreamRec),
      s.running = true ∧ s.path.plantSilence = some at_ ∧
      s.classifier.find side stream = some x ∧ x.freshness = some at_ ∧
      x.entry.role = .channel 17 :=
  ⟨20000, rig, .plant, 0x041, streams[4], by decide +kernel⟩

theorem witness_NextFrameBegins :
    (crowded 1).running = true ∧ (crowded 1).path.vehicleTx = some (ownFrame tooLong) ∧
      (crowded 1).path.plantTx = some tooLong ∧ (crowded 0).path.vehicleQueue = [] ∧
      (crowded 0).path.forwardQueue = [] ∧ (crowded 1).path.commandSet = [] := by
  decide +kernel

/-- A SAMPLE frame with a raw value. -/
def sample (raw : BitVec 16) : Frame := frameOf 0x041 .sample 0 (bytes16 raw)

/-- Channel 17's scaled value of a raw value. -/
def scaled17 (raw : BitVec 16) : Int :=
  divTowardZero (s16At (sample raw).payload 0 * (rig.channelAt 17).entry.gain) 1024 +
    (rig.channelAt 17).entry.offset

/-- Raw values on both plausible bounds of channel 17, -3000 and 6000, and one past each. -/
theorem witness_PlausibilityOfASample :
    (rig.channelAt 17).entry.quantity ≠ none ∧ (rig.channelAt 17).quality = .fresh ∧
      (sample 0).kind = .sample ∧ 2 ≤ (sample 0).payload.length ∧
      [(-2654 : Int), -2653, 5725, 5726].map (fun r => scaled17 (BitVec.ofInt 16 r)) =
        [-3000, -2999, 5999, 6000] ∧
      [(-2655 : Int), 5727].map (fun r => scaled17 (BitVec.ofInt 16 r)) = [-3002, 6002] := by
  decide +kernel

/-- Channel 17 in IMPLAUSIBLE with a count. -/
def implausibleRig (count : Nat) : State :=
  rig.setChannel 17 { channel17 with quality := .implausible, plausibleCount := count }

theorem witness_PlausibleSampleIsApplied :
    (∃ (c : Fin 48) (f : Frame) (s : State) (x : Int), s.running = true ∧
      (s.channelAt c).entry.quantity ≠ none ∧ f.kind = .sample ∧ 2 ≤ f.payload.length ∧
      x = divTowardZero (s16At f.payload 0 * (s.channelAt c).entry.gain) 1024 +
        (s.channelAt c).entry.offset ∧
      (s.channelAt c).entry.low ≤ x ∧ x ≤ (s.channelAt c).entry.high ∧
      (s.channelAt c).quality = .fresh ∧ (s.channelAt c).held = some 1783) ∧
      (staleRig.channelAt 17).quality = .stale ∧
      ((implausibleRig 1).channelAt 17).plausibleCount < 2 ∧
      2 ≤ ((implausibleRig 2).channelAt 17).plausibleCount ∧
      (serviceRig.channelAt 8).quality = .forced ∧ 17 ∉ rig.outdoorSources ∧
      8 ∈ rig.outdoorSources ∧
      ((after (.sampleFrame 8 (sample 0xFA38)) rig).channelAt 8).quality = .fresh :=
  ⟨⟨17, sample 1850, rig, 1837, by decide +kernel⟩, by decide +kernel⟩

theorem witness_ImplausibleSampleIsRejected :
    (∃ (c : Fin 48) (f : Frame) (s : State) (x : Int), s.running = true ∧
      (s.channelAt c).entry.quantity ≠ none ∧ f.kind = .sample ∧ 2 ≤ f.payload.length ∧
      x = divTowardZero (s16At f.payload 0 * (s.channelAt c).entry.gain) 1024 +
        (s.channelAt c).entry.offset ∧
      ¬ ((s.channelAt c).entry.low ≤ x ∧ x ≤ (s.channelAt c).entry.high) ∧
      (s.channelAt c).quality ≠ .implausible ∧ (s.channelAt c).quality ≠ .forced) ∧
      ((implausibleRig 2).channelAt 17).quality = .implausible ∧
      (serviceRig.channelAt 8).quality = .forced ∧ 17 ∉ rig.outdoorSources ∧
      8 ∈ rig.outdoorSources ∧
      ((after (.sampleFrame 8 (sample 0xE890)) rig).channelAt 8).quality = .implausible :=
  ⟨⟨17, sample 0xF060, rig, -4446, by decide +kernel⟩, by decide +kernel⟩

theorem witness_IgnoredFramesChangeNoRecord :
    rig.running = true ∧ (rig.channelAt 0).entry.quantity = none ∧ tooLong.kind ≠ .sample ∧
      (sample 0).payload.length < 7 ∧ (rig.doorAt 0).entry.zone = none ∧
      (rig.doorAt 2).entry.zone ≠ none ∧ doorStateOf [5] = none ∧
      (rig.slotAt 0).state = .unbound ∧
      (rig.slotAt 4).entry.map LoadEntry.echoStream = some (some 0x200) := by
  decide +kernel

/-- A channel that is an outdoor source, and two that are none. -/
theorem witness_SilentChannels :
    (8 ∈ rig.outdoorSources ∧ (rig.channelAt 8).quality = .fresh ∧
      (rig.channelAt 8).entry.grace = 0 ∧ 17 ∉ rig.outdoorSources ∧
      (after (.channelFreshnessExpiry 8) rig).sample.outdoor = -1565) ∧
      (rig.channelAt 17).quality = .fresh ∧ 0 < (rig.channelAt 17).entry.grace ∧
      (rig.channelAt 20).quality = .fresh ∧ (rig.channelAt 20).entry.grace = 0 ∧
      (staleRig.channelAt 17).staleTimer = some 40000 ∧
      ((implausibleRig 1).channelAt 17).quality = .implausible := by
  decide +kernel

/-- Each number of outdoor sources that count. -/
theorem witness_OutdoorValueFollowsItsSources :
    8 ∈ rig.outdoorSources ∧ (rig.channelAt 8).quality = .fresh ∧ rig.running = true ∧
      [sample 0xFA38, sample 0xE890].map (fun f =>
        let t := after (.sampleFrame 8 f) rig
        (t.outdoorSources.filterMap fun o => (t.channelAt o).value).length) = [3, 2] ∧
      (let t := after (.sampleFrame 8 (sample 0xE890))
        (rig.setChannel 3 (outdoorChannel 0).toLost)
      (t.outdoorSources.filterMap fun o => (t.channelAt o).value).length = 1) ∧
      (let t := after (.sampleFrame 8 (sample 0xE890))
        ((rig.setChannel 3 (outdoorChannel 0).toLost).setChannel 30 (outdoorChannel 0).toLost)
      (t.outdoorSources.filterMap fun o => (t.channelAt o).value).length = 0) ∧
      (after (.sampleFrame 8 (sample 0xFA38)) { rig with
        sample := { rig.sample with outdoorExisted := false } }).sample.outdoorExisted = true := by
  decide +kernel

/-- Door 2 open, with an open time on the RAMP limit of 600 s or one short of it. -/
def rampRig (time : Nat) : State := openRig.setDoor 2 { openRig.doorAt 2 with openTime := time }

/-- A RAMP at a closed door, at an open one before the limit, and at one on the limit. -/
theorem witness_DoorOpens :
    (∃ (d z : Fin 8) (f : Frame) (v : DoorState) (s : State), s.running = true ∧
      (s.doorAt d).entry.zone = some z ∧ (s.doorAt d).isOpen = false ∧ f.kind = .state ∧
      doorStateOf f.payload = some v ∧ v ≠ .closed ∧ s.loadsSettled) ∧
      ∀ time ∈ [599999, 600000], ((rampRig time).doorAt 2).isOpen = true ∧
        ((rampRig time).doorAt 2).longOpen = false ∧
        ((rampRig time).doorAt 2).openTime = time ∧
        1000 * ((rampRig time).doorAt 2).entry.rampLimit = 600000 ∧
        ((after (.doorFrame 2 (frameOf 0x302 .state 2 [4])) (rampRig time)).doorAt 2).longOpen =
          decide (600000 ≤ time) := by
  unfold State.loadsSettled
  refine ⟨⟨2, 2, frameOf 0x302 .state 2 [4], .ramp, rig, ?_⟩, ?_⟩ <;> decide +kernel

/-- An open door that holds, and a closed one. -/
theorem witness_DoorCloses :
    (rig.doorAt 2).isOpen = false ∧ (rig.doorAt 2).entry.zone = some 2 ∧
      ∃ (d z : Fin 8) (f : Frame) (s : State), s.running = true ∧
      (s.doorAt d).entry.zone = some z ∧ (s.doorAt d).isOpen = true ∧ f.kind = .state ∧
      doorStateOf f.payload = some .closed ∧ (s.doorAt d).holding = true ∧
      0 < (s.doorAt d).entry.holdOver ∧ s.loadsSettled := by
  refine ⟨by decide +kernel, by decide +kernel, 2, 2, frameOf 0x302 .state 2 [0], openRig, ?_⟩
  unfold State.loadsSettled
  decide +kernel

theorem witness_DoorGoesStale :
    openRig.running = true ∧ (openRig.doorAt 2).entry.zone = some 2 ∧
      (openRig.doorAt 2).isOpen = true ∧ openRig.loadsSettled ∧
      (rig.doorAt 2).entry.zone = some 2 ∧ (rig.doorAt 2).isOpen = false := by
  unfold State.loadsSettled
  decide +kernel

/-- The rig outside a session, with an entry of a segment written. -/
def loadedRig (seg : SegmentId) (index : Nat) (bytes : List Byte) (s : State) : State :=
  { s with
    agent := { s.agent with
      session := none, contents := s.agent.contents.modify seg (·.set index bytes) } }

/-- A state whose door 2 has new contents pending. -/
def doorPending (bytes : List Byte) (s : State) : State :=
  loadedRig SegmentId.doors 2 bytes (s.setDoor 2 { s.doorAt 2 with adoptPending := true })

/-- Open times that reach and miss the limit of 240 s by a step of 500 ms; and pending contents that keep
the zone, move the door, make it used or unused, or fail their check. -/
theorem witness_DoorSteps :
    openRig.running = true ∧ (openRig.doorAt 2).stepTimer = some 20000 ∧
      (openRig.doorAt 2).adoptPending = false ∧ (openRig.doorAt 2).entry.zone = some 2 ∧
      (openRig.doorAt 2).isOpen = true ∧ (openRig.doorAt 2).longOpen = false ∧
      (openRig.doorAt 2).rampSeen = false ∧ (openRig.doorAt 2).entry.longOpen = 240 ∧
      (∀ time ∈ [239499, 239500],
        ((openRig.setDoor 2 { openRig.doorAt 2 with openTime := time }).doorAt 2).openTime = time) ∧
      239499 + 500 < 1000 * 240 ∧ 1000 * 240 ≤ 239500 + 500 ∧
      (rig.doorAt 2).isOpen = false ∧
      (let s := doorPending [0x23, 1, 40, 0, 8, 14, 24, 60] openRig
      (s.doorAt 2).adoptPending = true ∧ (s.doorAt 2).stepTimer = some 20000 ∧
        s.sessionOn SegmentId.doors = false) ∧
      ([[0x22, 1, 40, 0, 8, 14, 24, 60], [0x23, 1, 40, 0, 8, 14, 24, 60],
          [0x2F, 1, 40, 0, 8, 14, 24, 60], [0x22, 1, 40, 9, 8, 14, 24, 60]].map fun bytes =>
        let read := readDoor (entryAt
          ((doorPending bytes openRig).agent.contents.get SegmentId.doors) 2)
        (read.1.zone, read.2)) = [(some 2, 0), (some 3, 0), (none, 0), (some 2, 1)] ∧
      (rig.setDoor 2 { door2 with entry := { door2.entry with zone := none } }).doorAt 2 =
        { door2 with entry := { door2.entry with zone := none } } := by
  decide +kernel

theorem witness_DraftTermIsTheLargestPart :
    (∃ part : Fin 8 → Nat, ∀ d, part d = if (openRig.doorAt d).longOpen
      then min 3000 ((openRig.zoneAt 2).entry.kg * (openRig.doorAt d).dose / 256)
      else (openRig.zoneAt 2).entry.kg * (openRig.doorAt d).dose / 256) ∧
      (openRig.doorAt 2).entry.zone = some 2 ∧ openRig.draftTerm 2 = 4142 ∧
      (∀ d, (openRig.doorAt d).entry.zone ≠ some 3) :=
  ⟨⟨_, fun _ => rfl⟩, by decide +kernel⟩

/-- The rig's loads are at rest. -/
theorem rig_loadsAtRest : rig.loadsAtRest := by
  refine ⟨rfl, by decide +kernel, by decide +kernel, fun x r h => ?_,
    fun x => by cases x <;> decide +kernel⟩
  cases x <;> cases h
  decide

/-- A supply frame with a voltage, a pole contact and a surplus. -/
def supplyOf (voltage : BitVec 16) (pole surplus : Byte) : Frame :=
  frameOf 0x120 .state 1 (bytes16 voltage ++ [pole, 0x01, 0x90, 0, surplus])

/-- The rig in LIVE and banking: zone 2 banks at a negative D, and slot 9 is manual. -/
def bankingRig : State :=
  ({ rig with budget := { rig.budget with banking := true, heldSurplus := 30, lineBudget := 430 } }.setZone
    2 { zone2 with banking := true, bankTimer := none, d := -500, lastD := -500 }).setSlot 9
    { rig.slotAt 9 with manual := true, commanded := 1 }

/-- Frames on both thresholds, 500 and 250 V, and below them, and one off the wire; compressors that are
locked and not; loads at rest where compressor A's lock condition changes; and a banking zone and a manual slot
at a frame that leaves LIVE. -/
theorem witness_SupplyFrameMovesTheState :
    (rig.loadsAtRest ∧ (after (.supplyFrame (supplyOf 249 1 0)) rig).lockedA ≠ rig.lockedA) ∧
      rig.running = true ∧ (supplyOf 500 1 0).kind = .state ∧ 7 ≤ (supplyOf 500 1 0).payload.length ∧
      u8At (supplyOf 500 1 0).payload 2 = 1 ∧ u8At (supplyOf 500 0 0).payload 2 = 0 ∧
      [500, 499, 250, 249].map (fun v => u16At (supplyOf v 1 0).payload 0) = [500, 499, 250, 249] ∧
      rig.budget.entry.sag = 500 ∧ rig.budget.entry.gap = 250 ∧ rig.loadsSettled ∧
      (rig.sectionAt .a).compressor.map CompressorRec.state = some .offReady ∧
      ((compressorRig .offLocked).sectionAt .a).compressor.map CompressorRec.lock = some .long ∧
      ((after (.supplyFrame (supplyOf 249 1 0)) rig).sectionAt .a).compressor.map
        CompressorRec.lock = some .short ∧
      bankingRig.running = true ∧ bankingRig.loadsSettled ∧ bankingRig.budget.state = .live ∧
      (bankingRig.slotAt 9).manual = true ∧
      (let t := after (.supplyFrame (supplyOf 499 1 30)) bankingRig
      (t.budget.state, (t.zoneAt 2).banking, (t.zoneAt 2).bankTimer, (t.zoneAt 2).d) =
        (.sag, false, some 310000, 0)) := by
  refine ⟨⟨rig_loadsAtRest, by decide +kernel⟩, ?_⟩
  unfold State.loadsSettled
  decide +kernel

theorem witness_BankingFollowsTheSurplus :
    rig.budget.state = .live ∧ rig.budget.entry.sag ≤ min (u16At (supplyOf 600 1 30).payload 0) 1200 ∧
      rig.budget.banking = false ∧ min (u16At (supplyOf 600 1 30).payload 5) 800 = 30 ∧
      (let t := after (.supplyFrame (supplyOf 600 1 30)) rig
      t.budget.banking = true ∧ min (u16At (supplyOf 600 1 29).payload 5) 800 < 30) := by
  decide +kernel

theorem witness_SupplyGoesStale :
    (rig.loadsAtRest ∧ (after .supplyFreshnessExpiry rig).lockedA ≠ rig.lockedA) ∧
      (supplyRig .dewired).running = true ∧ (supplyRig .dewired).budget.state = .dewired ∧
      (supplyRig .dewired).loadsSettled ∧ rig.running = true ∧ rig.budget.state ≠ .dewired ∧ bankingRig.running = true ∧
      bankingRig.loadsSettled ∧ bankingRig.budget.state = .live ∧
      bankingRig.budget.banking = true ∧ (bankingRig.zoneAt 2).banking = true ∧
      (bankingRig.zoneAt 2).d < 0 ∧ (bankingRig.slotAt 9).manual = true := by
  refine ⟨⟨rig_loadsAtRest, by decide +kernel⟩, ?_⟩
  unfold State.loadsSettled
  decide +kernel

/-- An entry to LIVE with a surplus of 30, on which zone 2 banks, and one with 29; and loads at rest. -/
theorem witness_SettlingEnds :
    (supplyRig .returning).loadsAtRest ∧ (∀ surplus ∈ [29, 30],
      let s := { supplyRig .returning with
        budget := { (supplyRig .returning).budget with heldSurplus := surplus } }
      let t := after .settleExpiry s
      (s.running, s.budget.settleTimer, s.budget.state) = (true, some 11000, .returning) ∧
        (s.zoneAt 2).entry.enabled = true ∧ (s.zoneAt 2).entry.bankMargin = 150 ∧
        t.budget.banking = decide (surplus = 30) ∧ (t.zoneAt 2).banking = decide (surplus = 30)) ∧
      (supplyRig .returning).running = true ∧
      (supplyRig .returning).budget.settleTimer = some 11000 ∧
      (supplyRig .returning).budget.state = .returning := by
  refine ⟨⟨rfl, by decide +kernel, by decide +kernel, fun x r h => ?_,
    fun x => by cases x <;> decide +kernel⟩, by decide +kernel⟩
  cases x <;> cases h
  decide

theorem witness_GapRunsOut :
    (supplyRig .gap).running = true ∧ (supplyRig .gap).budget.gapTimer = some 11000 ∧
      (supplyRig .gap).budget.state = .gap ∧ (supplyRig .gap).loadsSettled := by
  unfold State.loadsSettled
  decide +kernel

/-- The rig outside a session, with LOADS contents pending that bind slot 20. -/
def loadsPendingRig : State :=
  loadedRig SegmentId.loads 20 [1, 0, 60, 4, 20, 1, 20, 2, 20, 10, 0, 0]
    { rig with actuator := { rig.actuator with loadsPending := true } }

/-- Ramp ceilings that reach the target of 400 and miss it by one; loads at rest; and LOADS contents
pending, in and out of a LOADS session. -/
theorem witness_BudgetPeriodEnds :
    rig.running = true ∧ rig.budget.periodTimer = some 20000 ∧ rig.budget.state = .live ∧
      rig.budget.ramp = none ∧
      (380 + 20 = min rig.budget.heldAllowance rig.budget.entry.climateMax +
        (if rig.budget.banking then min rig.budget.heldSurplus 150 else 0)) ∧
      (∀ c ∈ [some 379, some 380],
        { rig with budget := { rig.budget with ramp := c } }.budget.ramp = c) ∧
      rig.loadsAtRest ∧ (rig.slotAt 4).asks.cooling = none ∧
      loadsPendingRig.actuator.loadsPending = true ∧
      loadsPendingRig.sessionOn SegmentId.loads = false ∧
      ((after .budgetPeriodExpiry loadsPendingRig).slotAt 20).state = .ok ∧
      loadsPendingRig.compressorSlot .a = some 16 ∧
      (after .budgetPeriodExpiry loadsPendingRig).compressorSlot .a = none ∧
      { loadsPendingRig with
        agent := { rig.agent with
          session := some { segment := 4, mode := .stop, cursor := 2, expected := 0, buffer := [],
                            completed := 1, timer := some 12000 } } }.sessionOn
        SegmentId.loads = true := by
  refine ⟨?_, ?_, ?_, ?_, ?_, ?_, rig_loadsAtRest, ?_⟩ <;> decide +kernel

/-- The rig whose compressor A runs with its cooling call set, while LOADS contents without it wait. -/
def unbindingRig : State :=
  (loadsPendingRig.setSection .a
      { demand := 2000, call := true
        compressor := some { state := .run, lock := .long, lockTimer := none, minRunTimer := none } }).setZone
    2 { zone2 with d := -2000, entry := { zone2.entry with part := .a, cool := true } }

/-- The record of a compressor that the adoption unbinds stands under the long lock of 180 s, and
COMPRESSOR_HELD holds with the cooling call (R39, R51). -/
theorem test_unbound_compressor :
    let t := after .budgetPeriodExpiry unbindingRig
    t.compressorSlot .a = none ∧ t.condition .compressorHeld = true ∧ t.sectionAt .a =
      { demand := 2000, call := true
        compressor := some { state := .offLocked, lock := .long, lockTimer := some 200000,
                             minRunTimer := none } } := by
  decide +kernel

/-- The rig with the requests of a ladder at full demand, and a line budget. -/
def askedRig (line : Nat) : State :=
  ({ rig with budget := { rig.budget with lineBudget := line } }.setRow 4
    { request := 60, cls := 3, grant := 0, limited := true }).setRow 1
    { request := 45, cls := 2, grant := 0, limited := true }

/-- Budgets on which class 3 is granted in full, scaled, and left nothing. -/
theorem witness_AllocationByClasses :
    ((askedRig 105).slotAt 4).participates = true ∧ ((askedRig 105).slotAt 4).manual = false ∧
      (askedRig 105).leftFor .line 3 = 60 ∧ (askedRig 105).classSum .line 3 = 60 ∧
      (askedRig 104).leftFor .line 3 = 59 ∧ (askedRig 44).leftFor .line 3 = -1 ∧
      ((askedRig 104).allocate.rowAt 4).grant = 59 ∧ ((askedRig 44).allocate.rowAt 1).grant = 44 := by
  decide +kernel

/-- The load of compressor A. -/
def compressorA : LoadEntry :=
  { kind := .compressor, pool := .line, rated := 120, stages := 0, minLevel := 20,
    commandStream := 0x100, echoStream := some 0x200, refresh := 10, place := .body .a }

/-- A rig whose section A calls for cooling at 30 percent or not at all, with its compressor in a state
at rest. -/
def calledRig (x : CompressorState) (call : Bool) : State :=
  let s := (compressorRig x).setSection .a
    { (compressorRig x).sectionAt .a with demand := if call then 3000 else 0, call }
  let ask := if x = .offLocked then 0 else 36
  (s.setSlot 16 { s.slotAt 16 with asks := { noAsks with cooling := some 36 } }).setRow 16
    { request := ask, cls := 3, grant := ask, limited := false }

theorem runMin_loadsAtRest (call : Bool) : (calledRig .runMin call).loadsAtRest := by
  refine ⟨by cases call <;> rfl, by cases call <;> decide +kernel,
    by cases call <;> decide +kernel, fun y r e => ?_,
    fun x => by cases call <;> cases x <;> decide +kernel⟩
  cases call <;> cases y <;> cases e <;> decide

theorem offLocked_loadsAtRest : (calledRig .offLocked true).loadsAtRest := by
  refine ⟨rfl, by decide +kernel, by decide +kernel, fun y r e => ?_,
    fun x => by cases x <;> decide +kernel⟩
  cases y <;> cases e
  decide

/-- Minimum runs that end with the cooling call set, and with nothing asked. -/
theorem witness_MinimumRunEnds :
    ∀ call, (calledRig .runMin call).loadsAtRest ∧
      (let s := calledRig .runMin call
      s.running = true ∧ (s.sectionAt .a).compressor = some
        { state := .runMin, lock := .long, lockTimer := none, minRunTimer := some 11000 } ∧
      s.compressorSlot .a = some 16 ∧ (s.slotAt 16).entry = some compressorA ∧
      0 < compressorA.rated ∧
      (∀ j, j ≠ 16 → (s.slotAt j).entry.all fun o =>
        o.kind ≠ .compressor || o.place ≠ .body .a) ∧
      (∀ p, (s.slotAt 16).asks.glazing.get p = none) ∧ (s.sectionAt .a).call = call ∧
      ((after (.minimumRunExpiry .a) s).sectionAt .a).compressor.map CompressorRec.state =
        some (if call then .run else .offLocked)) := by
  intro call
  refine ⟨runMin_loadsAtRest call, ?_⟩
  cases call <;> decide +kernel

theorem offLocked_panelsFollow (p : Fin 4) :
    (calledRig .offLocked true).panelFollows (calledRig .offLocked true) p :=
  panelsFollow_of_putPanels _ (by decide +kernel) p

/-- The rig whose panel 0 demists in mild air while compressor A is locked, with the panel's contribution to
the blower. -/
def dryRig : State :=
  let s := (compressorRig .offLocked).setPanel 0 { panel0 with state := .demist }
  let s := { s with sample := { s.sample with outdoor := 201 } }.putPanels
  s.setRow 15 { request := 11, cls := 0, grant := 11, limited := false }

theorem dryRig_loadsAtRest : dryRig.loadsAtRest := by
  refine ⟨rfl, by decide +kernel, by decide +kernel, fun x r h => ?_,
    fun x => by cases x <;> decide +kernel⟩
  cases x <;> cases h
  decide

theorem dryRig_panelsFollow (p : Fin 4) : dryRig.panelFollows dryRig p :=
  panelsFollow_of_putPanels _ (by decide +kernel) p

/-- The rig with its compressor in section B, under the lock and called for at 30 percent. -/
def compressorBRig : State :=
  let s := (rig.setSection .a { rig.sectionAt .a with compressor := none }).setSection .b
    { demand := 3000, call := true
      compressor := some { state := .offLocked, lock := .long, lockTimer := some 11000,
                           minRunTimer := none } }
  s.setSlot 16 { s.slotAt 16 with
    entry := some { compressorA with place := .body .b }, asks := { noAsks with cooling := some 36 } }

theorem compressorBRig_loadsAtRest : compressorBRig.loadsAtRest := by
  refine ⟨rfl, by decide +kernel, by decide +kernel, fun x r h => ?_,
    fun x => by cases x <;> decide +kernel⟩
  cases x <;> cases h
  decide

/-- After its lock the record of a section without a compressor is OFF_READY, and the glazing unit still sees
compressor A locked (R39, log entry 42). -/
theorem test_lock_without_compressor :
    let t := after (.lockExpiry .a)
      ((compressorRig .offLocked).setSlot 16 { rig.slotAt 16 with entry := none, state := .unbound })
    (t.sectionAt .a).compressor.map CompressorRec.state = some .offReady ∧ t.lockedA = true := by
  decide +kernel

/-- Locks that end with the cooling call set at rest, in sections A and B; with a panel that asks for
dehumidifying; with nothing asked; and on a FAULTED slot. -/
theorem witness_RestartLockEnds :
    (∃ (power : Nat) (s : State), s = calledRig .offLocked true ∧ s.loadsAtRest ∧
      (∀ p, s.panelFollows s p) ∧ (s.sectionAt .a).call = true ∧
      power = compressorA.levelPower (max 30 (min 100 ((s.sectionAt .a).demand / 100))) ∧
      power + (allSlots.map fun j => if j ≠ 16 ∧ (s.slotAt j).entry.any (·.pool = .line)
        then (s.rowAt j).request else 0).sum ≤ s.budget.lineBudget ∧
      ((after (.lockExpiry .a) s).sectionAt .a).compressor.map CompressorRec.state =
        some .runMin) ∧
      ∀ s ∈ [calledRig .offLocked true, compressorRig .offLocked, (compressorRig .offLocked).setSlot 16
          { (compressorRig .offLocked).slotAt 16 with state := .faulted }],
        s.running = true ∧ s.actuator.loadsPending = false ∧
        (s.sectionAt .a).compressor = some
          { state := .offLocked, lock := .long, lockTimer := some 11000, minRunTimer := none } ∧
        (s.slotAt 16).entry = some compressorA ∧
        (∀ j, j ≠ 16 → (s.slotAt j).entry.all fun o =>
          o.kind ≠ .compressor || o.place ≠ .body .a) ∧
        (s.slotAt 16).manual = false ∧ (s.slotAt 16).commanded = 0 ∧ (s.rowAt 16).grant = 0 ∧
        (s.slotAt 16).asks = { noAsks with
          cooling := (s.slotAt 16).asks.cooling, glazing := (s.slotAt 16).asks.glazing } :=
  ⟨⟨36, _, rfl, offLocked_loadsAtRest, offLocked_panelsFollow, by decide +kernel⟩,
    by decide +kernel⟩

theorem witness_RestartLockEnds_of_panels_and_of_section_b :
    (dryRig.loadsAtRest ∧ (∀ p, dryRig.panelFollows dryRig p) ∧
      (dryRig.sectionAt .a).call = false ∧ 200 < dryRig.sample.outdoor ∧ dryRig.treated 0 .demist ∧
      compressorA.levelPower 30 + 11 ≤ dryRig.budget.lineBudget ∧
      (dryRig.rowAt 16).grant = 0 ∧ (dryRig.slotAt 16).asks = noAsks ∧
      ((after (.lockExpiry .a) dryRig).rowAt 16).grant = 36) ∧
      compressorBRig.loadsAtRest ∧
      (compressorBRig.slotAt 16).asks = { noAsks with cooling := some 36 } ∧
      ((after (.lockExpiry .b) compressorBRig).rowAt 16).grant = 36 := by
  refine ⟨⟨dryRig_loadsAtRest, dryRig_panelsFollow, ?_⟩, compressorBRig_loadsAtRest, ?_⟩
  · unfold State.treated
    decide +kernel
  · decide +kernel

/-- The rig with pending contents for a zone. -/
def zonePendingAt (z : Fin 8) (bytes : List Byte) : State :=
  loadedRig SegmentId.zones z.val bytes
    (rig.setZone z { rig.zoneAt z with adoptPending := true, passTimer := some 20000 })

/-- The rig with pending contents for zone 2. -/
def zonePending (bytes : List Byte) : State := zonePendingAt 2 bytes

/-- A disabled zone; pending contents that pass and fail their check; and ladders whose first entry
another zone owns, and whose second entry names the slot of the first. -/
theorem witness_DisabledZoneIsOff :
    (∃ (z : Fin 8) (at_ : PartTime) (s : State), s.running = true ∧
      (s.zoneAt z).passTimer = some at_ ∧ s.zoneKeeps z ∧ (s.zoneAt z).entry.enabled = false) ∧
      ((zonePending zoneBytes).zoneAt 2).passTimer = some 20000 ∧
      ((zonePending zoneBytes).zoneAt 2).adoptPending = true ∧
      ((zonePending zoneBytes).zoneAt 2).doorHold = false ∧
      (zonePending zoneBytes).sessionOn SegmentId.zones = false ∧
      (readZone (entryAt ((zonePending zoneBytes).agent.contents.get SegmentId.zones) 2)).2 = 0 ∧
      (let ladder := (readZone zoneBytes).1.ladder
      ladder.map (·.slot) = [4, 9] ∧
        ladder.map (fun x => ((zonePending zoneBytes).slotAt x.slot).owner) =
          [some (2, 0), some (2, 1)]) ∧
      (readZone (zoneBytes.set 2 60)).2 = 1 ∧
      (let s := zonePendingAt 6 zoneBytes
      (s.zoneAt 6).passTimer = some 20000 ∧ ¬ s.zoneKeeps 6 ∧
        (readZone (entryAt (s.agent.contents.get SegmentId.zones) 6)) = ((readZone zoneBytes).1, 0) ∧
        s.claimRefused 6 (readZone zoneBytes).1.ladder 0 ∧
        ((after (.zonePass 6) s).notice.record.map fun r => (r.code, r.index)) =
          some (.tableInconsistent, 4)) ∧
      (let bytes := (zoneBytes.set 19 0x82).set 20 0x3C
      let s := zonePending bytes
      (readZone bytes).2 = 0 ∧ (readZone bytes).1.ladder.map (·.slot) = [4, 4] ∧
        ¬ s.claimRefused 2 (readZone bytes).1.ladder 0 ∧
        s.claimRefused 2 (readZone bytes).1.ladder 1) := by
  refine ⟨⟨5, 3500, rig, rfl, rfl, .inl rfl, rfl⟩, ?_⟩
  unfold State.zoneKeeps State.claimRefused
  decide +kernel

/-- The rig whose zone 0 has these members, a demand floor, and the flag of CAB_HEAT_MAX set or not. -/
def cabRig (members : List Member) (heatMax : Bool) : State :=
  rig.setZone 0 { zone0 with entry := { zone0.entry with members }, floor := true, heatMax }

/-- Zone 2 with its member lost; and zone 0 under the floor and under CAB_HEAT_MAX. -/
theorem witness_ZoneFallsBack :
    (∃ (z : Fin 8) (at_ : PartTime) (s : State) (f u d : Int), s.running = true ∧
      (s.zoneAt z).passTimer = some at_ ∧ s.zoneKeeps z ∧ (s.zoneAt z).entry.enabled = true ∧
      (s.zoneAt z).entry.members ≠ [] ∧
      (∀ m ∈ (s.zoneAt z).entry.members, ∀ c : Fin 48, c.val = m.channel →
        (s.channelAt c).value = none) ∧
      f = clamp ((s.zoneAt z).entry.rounding.div
        ((s.zoneAt z).entry.kf * ((s.zoneAt z).entry.tbal - s.sample.outdoor)) 256)
        (-10000) 10000 ∧
      u = f + (s.zoneAt z).g + (s.zoneAt z).entry.fallbackBias ∧ d = clamp u 0 10000) ∧
      ∀ heatMax, (
        let s := cabRig [] heatMax
        s.running = true ∧ (s.zoneAt 0).passTimer = some 20000 ∧ s.zoneKeeps 0 ∧
          (s.zoneAt 0).entry.enabled = true ∧ (s.zoneAt 0).entry.members = [] ∧
          ((after (.zonePass 0) s).zoneAt 0).d = if heatMax then 10000 else 6000) := by
  refine ⟨⟨2, 20000, rig.setChannel 20 { channel17 with quality := .lost }, 1237, 4387, 4387,
    rfl, rfl, .inl rfl, ?_⟩, ?_⟩
  · decide +kernel
  · unfold State.zoneKeeps
    decide +kernel

/-- Case A: no hold, no rejection, and the members it reads; zone 0 under the floor and under
CAB_HEAT_MAX; and a schedule that waits and is adopted. -/
theorem witness_ZoneRegulates :
    (∃ (z : Fin 8) (at_ : PartTime) (s : State) (ms : List (Int × Nat)) (old : ZoneRec)
      (tm ts err p f start i j uj u d : Int) (preset : Bool) (owed hold reject : Prop),
      s.running = true ∧ old = s.zoneAt z ∧ old.passTimer = some at_ ∧
      (old.adoptPending = false ∨ old.doorHold = true) ∧
      old.entry.enabled = true ∧
      ms = old.entry.members.filterMap s.memberValue ∧ ms ≠ [] ∧
      tm = old.entry.rounding.div ((ms.map fun m => m.1 * (m.2 : Int)).sum) (ms.map Prod.snd).sum ∧
      ts = clamp (s.scheduled.baseSetpoint z + s.setpointOffset z +
        (if old.banking then (old.entry.bankMargin : Int) else 0) +
        (if z = 0 ∧ old.boost then 300 else 0)) old.entry.setMin old.entry.setMax ∧
      err = clamp (ts - tm) (-2000) 2000 ∧ p = old.entry.rounding.div (old.entry.kp * err) 256 ∧
      f = clamp (old.entry.rounding.div (old.entry.kf * (old.entry.tbal - s.sample.outdoor)) 256)
        (-10000) 10000 ∧
      (hold ↔ old.doorHold = true ∨ (z = 0 ∧ old.heatMax = true) ∨
        (z ≠ 0 ∧ old.climateOff = true)) ∧
      (owed ↔ old.mode = .fallback ∨ old.preset = true) ∧ (preset = true ↔ owed ∧ hold) ∧
      (owed → ¬ hold → start = clamp ((old.lastD - p - f - old.g) * 256) (-2560000) 2560000) ∧
      (¬ owed ∨ hold → start = if old.mode = .off then 0 else old.i) ∧
      j = clamp (start + old.entry.ki * err) (-2560000) 2560000 ∧
      uj = p + old.entry.rounding.div j 256 + f + old.g ∧
      (reject ↔ (old.heatLimited = true ∧ 0 < err) ∨ (old.coolLimited = true ∧ err < 0) ∨
        (10000 < uj ∧ 0 < err) ∨ (uj < -10000 ∧ err < 0) ∨ (old.bankRelease = true ∧ j < start)) ∧
      (hold ∨ reject → i = start) ∧ (¬ hold → ¬ reject → i = j) ∧
      u = p + old.entry.rounding.div i 256 + f + old.g ∧
      d = clamp u (if old.entry.cool = false ∨ old.bankRelease = true then 0 else -10000) 10000) ∧
      (∀ heatMax, (
        let s := cabRig [{ channel := 20, weight := 1 }] heatMax
        s.running = true ∧ (s.zoneAt 0).passTimer = some 20000 ∧ s.zoneKeeps 0 ∧
          (s.zoneAt 0).entry.enabled = true ∧
          (s.zoneAt 0).entry.members.filterMap s.memberValue = [(1850, 1)] ∧
          ((after (.zonePass 0) s).zoneAt 0).d = if heatMax then 10000 else 6000)) ∧
      (let s := loadedRig SegmentId.schedule 0 [1, 0, 0x27, 0x10, 7, 208, 30, 0]
        { caseRig with zone := { caseRig.zone with schedulePending := true } }
      s.zone.schedulePending = true ∧ s.sessionOn SegmentId.schedule = false ∧
        s.scheduled.zone.schedule.length = 1) := by
  refine ⟨⟨2, 20000, caseRig, [(1850, 1)], caseRig.zoneAt 2, 1850, 2000, 150, 750, 1237, 256000,
    258400, 258400, 2996, 2996, 2996, false, False, False, False, ?_⟩, ?_, ?_⟩
  · repeat' apply And.intro
    all_goals decide +kernel
  · unfold State.zoneKeeps
    decide +kernel
  · decide +kernel

theorem witness_ZoneTimersClearTheirFlags :
    ∃ (z : Fin 8) (at_ : PartTime) (s : State), s.running = true ∧
      (s.zoneAt z).bankTimer = some at_ ∧ s.holdOverAt z = some at_ ∧
      ∀ d, (s.doorAt d).entry.zone = some z → (s.doorAt d).holding = false :=
  ⟨2, 20000, (rig.setHold 2 true).setHoldOver 2 (some 20000), by decide +kernel⟩

/-- The rig with a DEFROST_NOW override on panel 0, whose contents are pending or not. -/
def icedRig (adoptPending : Bool) : State :=
  loadedRig SegmentId.glazing 0 [1, 5, 21, 0xFF, 0, 0xC8, 1, 0xF4, 24, 12, 0, 64]
    { rig.setPanel 0 { panel0 with adoptPending } with
      override := { rig.override with
        entries := [{ kind := .defrostNow, target := .panel 0, value := 0, origin := .console,
                      expiry := some 30000 }] } }

/-- A due evaluation of a panel to be defrosted, with a D that it raises and one that stands; one whose contents wait in a GLAZING session; and one
that adopts them first, with the loads settled. -/
theorem witness_IceIsDefrosted :
    (∃ (p : Fin 4) (at_ : PartTime) (s : State), s.running = true ∧
      (s.panelAt p).evalTimer = some at_ ∧ (s.panelAt p).adoptPending = false ∧
      s.glazing.dewPending = false ∧ (s.panelAt p).entry.enabled = true ∧
      (s.panelAt p).state ≠ .off ∧
      (s.defrostNow p = true ∨ (s.panelInputs (s.panelAt p).entry).ice = true) ∧
      (s.zoneAt 0).mode ≠ .off) ∧
      (icedRig false).defrostNow 0 = true ∧ (icedRig false).loadsSettled ∧
      [5999, 6000].map (fun d =>
        ((after (.panelEvaluation 0) ((icedRig false).setZone 0 { zone0 with d })).zoneAt 0).lastD) =
        [6000, 2500] ∧
      (let s := { icedRig true with
        agent := { rig.agent with
          session := some { segment := SegmentId.glazing, mode := .stop, cursor := 2, expected := 0
                            buffer := [], completed := 1, timer := some 12000 } } }
      (s.panelAt 0).adoptPending = true ∧ s.sessionOn SegmentId.glazing = true ∧
        s.defrostNow 0 = true ∧ (s.panelAt 0).evalTimer = some 20000) ∧
      (let s := icedRig true
      (s.panelAt 0).adoptPending = true ∧ s.sessionOn SegmentId.glazing = false ∧
        s.defrostNow 0 = true ∧ (s.panelAt 0).evalTimer = some 20000 ∧
        (readPanel (entryAt (s.agent.contents.get SegmentId.glazing) 0)).2 = 0) := by
  unfold State.loadsSettled
  exact ⟨⟨0, 20000, rig, by decide +kernel⟩, by decide +kernel⟩

/-- The panel of the example of section 5.3 with a glass sensor, whose margin is the one given. -/
def marginRig (m : Int) (x : PanelState) (runOn : Nat) : State :=
  (panelRig.setChannel 5 { outdoorChannel (1134 + m) with
    entry := { (outdoorChannel 0).entry with quantity := some .glass } }).setPanel 0
    { panel0 with state := x, entry := { panel0.entry with glass := some 5, runOn } }

/-- The panel of the example of section 5.3; margins at the thresholds 200 and 500 in each state, an
absent margin in DEFROST, and run-ons of 0 and 60; and the pending contents of panel 0. -/
theorem witness_PanelMovesByItsMargin :
    (∃ (p : Fin 4) (at_ : PartTime) (s : State) (m : Option Int) (old : PanelRec),
      s.running = true ∧ old = s.panelAt p ∧ old.evalTimer = some at_ ∧ old.adoptPending = false ∧
      s.glazing.dewPending = false ∧ old.entry.enabled = true ∧ s.defrostNow p = false ∧
      (s.panelInputs old.entry).ice = false ∧ m = (s.panelInputs old.entry).margin ∧
      m = some (-1059)) ∧
      (∀ m ∈ [(199 : Int), 200, 499, 500], ∀ x ∈ [PanelState.watch, .demist, .defrost, .runOn],
        let s := marginRig m x 60
        s.panelInputs (s.panelAt 0).entry = { margin := some m, ice := false } ∧
          (s.panelAt 0).state = x) ∧
      (let s := (marginRig 500 .defrost 0).setChannel 21 { channel17 with quality := .lost }
      s.panelInputs (s.panelAt 0).entry = { margin := none, ice := false } ∧
        (s.panelAt 0).entry.runOn = 0 ∧ s.defrostNow 0 = false) ∧
      ([[1, 5, 21, 0xFF, 0, 0xC8, 1, 0xF4, 24, 12, 0, 64],
          [0, 5, 21, 0xFF, 0, 0xC8, 1, 0xF4, 24, 12, 0, 64],
          [1, 60, 21, 0xFF, 0, 0xC8, 1, 0xF4, 24, 12, 0, 64]].map fun bytes =>
        let s := loadedRig SegmentId.glazing 0 bytes
          (rig.setPanel 0 { panel0 with adoptPending := true })
        let read := readPanel (entryAt (s.agent.contents.get SegmentId.glazing) 0)
        ((s.panelAt 0).adoptPending, s.sessionOn SegmentId.glazing, read.1.enabled, read.2)) =
        [(true, false, true, 0), (true, false, false, 0), (true, false, true, 1)] ∧
      (rig.panelAt 1).entry.enabled = false :=
  ⟨⟨0, 20000, panelRig, some (-1059), panelRig.panelAt 0, by decide +kernel⟩, by decide +kernel⟩

theorem witness_PanelTimersExpire :
    ((rig.zoneAt 0).mode ≠ .off ∧ (rig.zoneAt 0).d < 6000 ∧ (State.reset.zoneAt 0).mode = .off) ∧
      rig.loadsSettled ∧ rig.running = true ∧
      ((rig.setPanel 0 { panel0 with state := .demist, escalateTimer := some 15000 }).panelAt
        0).escalateTimer = some 15000 ∧
      ((rig.setPanel 0 { panel0 with state := .runOn, runOnTimer := some 15000 }).panelAt
        0).runOnTimer = some 15000 := by
  unfold State.loadsSettled
  decide +kernel

/-- The load bound to slot 4 of the example machine. -/
def heater4 : LoadEntry :=
  { kind := .floorHeater
    pool := .line
    rated := 60
    stages := 4
    minLevel := 20
    commandStream := 0x100
    echoStream := some 0x200
    refresh := 10
    place := .body .a }

/-- A third mismatch; and a refresh at rest in an OK slot with one mismatch at most. -/
theorem witness_SlotIsRefreshed :
    (∃ (i : Fin 32) (l : LoadEntry) (old : SlotRec) (at_ : PartTime) (s : State)
      (checked wrong : Prop) (count : Nat), s.running = true ∧ s.loadsSettled ∧ old = s.slotAt i ∧
      old.refreshTimer = some at_ ∧ old.entry = some l ∧ old.state ≠ .unbound ∧
      old.manual = false ∧
      (checked ↔ old.state = .ok ∧ l.echoStream ≠ none ∧ s.path.plantSilent = false) ∧
      (wrong ↔ old.echoed ≠ some old.commanded) ∧
      (checked → wrong → count = old.mismatch + 1) ∧ (checked → ¬ wrong → count = 0) ∧
      (¬ checked → count = old.mismatch) ∧ checked ∧ wrong ∧ 3 ≤ count) ∧
      rig.loadsAtRest ∧ (rig.slotAt 4).refreshTimer = some 20000 ∧
      (rig.slotAt 4).entry = some heater4 ∧ (rig.slotAt 4).mismatch = 0 := by
  refine ⟨⟨4, heater4, mismatchRig.slotAt 4, 20000, mismatchRig, True, True, 3, ?_⟩,
    rig_loadsAtRest, by decide +kernel⟩
  unfold State.loadsSettled
  decide +kernel

theorem witness_EchoIsRecorded :
    ∃ (i : Fin 32) (f : Frame) (l : LoadEntry) (level : Byte) (rest : List Byte) (s : State),
      s.running = true ∧ (s.slotAt i).entry = some l ∧ (s.slotAt i).state ≠ .unbound ∧
      l.echoStream = some f.stream ∧ f.kind = .state ∧ f.payload = level :: rest :=
  ⟨4, frameOf 0x200 .state 0 [2], heater4, 2, [], rig, by decide +kernel⟩

/-- A list of eight entries. -/
def fullRig : State :=
  { rig with
    override := { rig.override with
      entries := rig.override.entries ++
        [Target.door 0, .door 1, .door 2, .door 3, .door 4, .door 5].map fun target =>
          { kind := .curtainOff, target, value := 0, origin := .console, expiry := none } } }

/-- A key of each kind with an effect in the event, at the bounds of its target's class. -/
def actingKeys : List (OverrideKind × Target) :=
  [(.fanLevel, .body .a), (.fanLevel, .cab), (.recirc, .body .a), (.recirc, .cab),
    (.defrostNow, .panel 0), (.climateOff, .allSaloon), (.curtainOff, .door 2),
    (.curtainOff, .allDoors)]

/-- The rig with a damper in section A and one in the cab. -/
def damperRig : State :=
  let damper := fun place => resetSlot (some
    { kind := .damper, pool := .line, rated := 0, stages := 0, minLevel := 20
      commandStream := 0x110, echoStream := none, refresh := 10, place }) none
  (rig.setSlot 19 (damper (.body .a))).setSlot 20 (damper .cab)

theorem damperRig_loadsAtRest : damperRig.loadsAtRest := by
  refine ⟨rfl, by decide +kernel, by decide +kernel, fun x r h => ?_,
    fun x => by cases x <;> decide +kernel⟩
  cases x <;> cases h
  decide

theorem witness_SetEntersTheList :
    (∀ x ∈ actingKeys, damperRig.targetEnabled x.1 x.2 = true ∧
        damperRig.override.find x.1 x.2 = none) ∧
      damperRig.loadsAtRest ∧ (rig.panelAt 0).state = .watch ∧ (rig.zoneAt 0).mode ≠ .off ∧
      overrideKindOf 4 = some .climateOff ∧ targetOf 0x08 = some .allSaloon ∧
      rig.targetEnabled .climateOff .allSaloon = true ∧
      rig.override.find .climateOff .allSaloon = none ∧ rig.override.entries.length < 8 ∧
      (rig.override.find .setpointOffset (.zone 2)).map OverrideEntry.origin = some .console ∧
      rig.targetEnabled .setpointOffset (.zone 2) = true :=
  ⟨by decide +kernel, damperRig_loadsAtRest, by decide +kernel⟩

theorem witness_RefusalsChangeNoEntry :
    (rig.loadsAtRest ∧ rig.path.plantTx = none ∧ rig.path.commandSet = [] ∧
        rig.path.forwardQueue = []) ∧ overrideKindOf 7 = none ∧ targetOf 0x09 = none ∧
      rig.targetEnabled .setpointOffset (.zone 5) = false ∧
      (rig.override.find .cabHeatMax .cab).map OverrideEntry.origin = some .depot ∧
      rig.targetEnabled .cabHeatMax .cab = true ∧
      (fullRig.targetEnabled .climateOff .allSaloon = true ∧
        fullRig.override.find .climateOff .allSaloon = none ∧
        8 ≤ fullRig.override.entries.length) :=
  ⟨⟨rig_loadsAtRest, by decide +kernel⟩, by decide +kernel⟩

/-- The rig whose list holds the acting keys, set at the console. -/
def actingRig : State :=
  { damperRig with
    override := { rig.override with
      entries := actingKeys.map fun x =>
        { kind := x.1, target := x.2, value := 0, origin := .console, expiry := some 20000 } } }

theorem witness_CancelLeavesTheList :
    (rig.loadsAtRest ∧ rig.path.plantTx = none ∧ rig.path.commandSet = [] ∧
        rig.path.forwardQueue = []) ∧ (∀ x ∈ actingKeys, x.1.admits x.2 = true ∧
      (actingRig.override.find x.1 x.2).map OverrideEntry.origin = some .console) ∧
      OverrideKind.setpointOffset.admits (.zone 2) = true ∧
      (rig.override.find .setpointOffset (.zone 2)).map OverrideEntry.origin = some .console ∧
      rig.override.find .climateOff .allSaloon = none ∧
      (rig.override.find .cabHeatMax .cab).map OverrideEntry.origin = some .depot ∧
      overrideKindOf 7 = none ∧ targetOf 0x09 = none ∧
      OverrideKind.climateOff.admits (.zone 2) = false :=
  ⟨⟨rig_loadsAtRest, by decide +kernel⟩, by decide +kernel⟩

/-- The depot's entry of the example machine. -/
def heatMaxEntry : OverrideEntry :=
  { kind := .cabHeatMax
    target := .cab
    value := 0
    origin := .depot
    expiry := some 20000 }

theorem witness_OverrideExpires :
    ∃ (k : OverrideKind) (g : Target) (x : OverrideEntry) (at_ : PartTime) (s : State),
      s.running = true ∧ s.override.find k g = some x ∧ x.expiry = some at_ :=
  ⟨.cabHeatMax, .cab, heatMaxEntry, 20000, rig, by decide +kernel⟩

/-- Every acting key's entry expires. -/
theorem witness_OverrideExpires_of_each_kind :
    actingRig.running = true ∧ ∀ x ∈ actingKeys,
      (actingRig.override.find x.1 x.2).bind OverrideEntry.expiry = some 20000 := by
  decide +kernel

/-- Queues with room for the header alone, and for the header and an entry. -/
theorem witness_StatusTimerSends :
    rig.running = true ∧ rig.override.statusTimer = some 20000 ∧ rig.override.entries.length = 2 ∧
      (crowded 23).path.vehicleQueue.length < 24 ∧
      ¬ (crowded 23).path.vehicleQueue.length + 0 + 1 < 24 ∧
      (crowded 22).path.vehicleQueue.length + 0 + 1 < 24 ∧
      (crowded 22).override.statusTimer = some 20000 := by
  decide +kernel

/-- The rig with this many frames waiting, two enabled statuses and a destination RAISED. -/
def raisedRig (waiting : Nat) : State :=
  { crowded waiting with
    notice := { rig.notice with
      raws := 0x208, statuses := 0x208
      entry := { cabMask := 0x000208, depotMask := 0x000008, storeUnmasked := false }
      cab := { raised := true, count := 3 } } }

theorem raisedRig_levelsFollow : (raisedRig 21).levelsFollow := by
  unfold State.levelsFollow
  decide +kernel

theorem raisedRig_loadsAtRest : (raisedRig 21).loadsAtRest := by
  refine ⟨rfl, by decide +kernel, by decide +kernel, fun x r h => ?_,
    fun x => by cases x <;> decide +kernel⟩
  cases x <;> cases h
  decide

/-- Whether clears are allowed; and a destination that stays RAISED, with room in the queue. -/
theorem witness_AcknowledgementClears :
    ((raisedRig 21).path.vehicleQueue.length < 23 ∧
      (raisedRig 21).agent.service.map Service.allowClears = some true ∧
      (after .ackNotices (raisedRig 21)).notice.cab = { raised := true, count := 4 } ∧
      (after .ackNotices (raisedRig 21)).notice.statuses = 0x008) ∧
      (rig.agent.service.map Service.allowClears = some true ∧ ∀ x ∈ levelSources,
        rig.notice.raw x = (rig.valid x && rig.condition x)) ∧
      { rig.agent with service := some { allowClears := false, timer := none } }.service.map
        Service.allowClears = some false ∧ rig.path.vehicleQueue.length < 23 := by
  decide +kernel

theorem witness_FaultRecordStands :
    ∃ (c : Instr) (s t : State) (r : FaultRec), exec c s = .next t ∧ s.notice.record = some r ∧
      (∀ straps, c ≠ .powerOn straps) ∧ (∀ straps, c ≠ .lineReset straps) ∧
      ∀ f rest, s.path.vehicleRx = f :: rest → f.kind = .manage →
        f.stream = manageStream s.path.node → c = .classifyFrame .vehicle →
        u8At f.payload 0 ≠ 0x13 :=
  ⟨.cancelAll, faultRig, after .cancelAll faultRig,
    { code := .supplyStale, index := 0, time := 0, supply := .live, further := true }, rfl, rfl,
    by decide, by decide, fun _ _ h => by cases h⟩

/-- The rig outside a session, with a request received. -/
def requestRig (payload : List Byte) : State :=
  withFrame { rig with agent := { rig.agent with session := none } } .vehicle
    (frameOf 0xE00 .manage 5 payload)

/-- The rig with a change to its agent. -/
def agentRig (f : Agent → Agent) (s : State) : State := { s with agent := f s.agent }

/-- The rig with a request received in its session, at a cursor and a mode, and with this many entries
completed. -/
def sessionRig (payload : List Byte) (cursor : Nat) (mode : SessionMode) (completed : Nat := 1) :
    State :=
  withFrame (agentRig (fun a => { a with
    session := a.session.map fun x => { x with cursor, mode, completed }, storeOp := none })
    rig) .vehicle (frameOf 0xE00 .manage 5 payload)

theorem requestRig_loadsAtRest (payload : List Byte) : (requestRig payload).loadsAtRest := rig_loadsAtRest

/-- Requests at rest that act on no slot, and one that names an OK slot; FORCE_CHANNEL and RELEASE_CHANNEL of
channel 17, which is no outdoor source; and a manual slot beside one that is not. -/
theorem witness_RequestsAreAnswered_at_rest :
    (∀ p, (requestRig p).loadsAtRest) ∧ (requestRig []).path.plantTx = none ∧
      (requestRig []).path.commandSet = [] ∧ (requestRig []).path.forwardQueue = [] ∧
      (requestRig [0x0F, 4]).brokenParts = [] ∧ ((requestRig [0x0F, 4]).slotAt 4).state = .ok ∧
      17 ∉ (requestRig []).outdoorSources ∧
      (let s := after (.classifyFrame .vehicle) (requestRig [0x0B, 17, 0, 0])
      (s.channelAt 17).quality = .forced ∧ s.sample.outdoor = -1500 ∧
        17 ∉ s.outdoorSources) ∧
      (serviceRig.slotAt 9).manual = true ∧ (serviceRig.slotAt 4).manual = false := by
  refine ⟨requestRig_loadsAtRest, ?_⟩
  decide +kernel

/-- Requests that each clause answers, and the states in which it does: outside a session and in one,
with and without a completed entry; the bound of the channel and slot numbers; STATUS of page 0 and of page
8, with the reply's length of R194; and NOTICE_TEST at a QUIET destination that has the test source
enabled. -/
theorem witness_RequestsAreAnswered :
    ([0, 1].map fun completed =>
        let s := sessionRig [0x0A] 2 .stop completed
        (s.agent.session.map Session.completed, s.brokenParts)) =
        [(some 0, []), (some 1, handedParts SegmentId.schedule)] ∧
      (∀ completed ∈ [0, 1], ∀ l ∈ [pendingSegments, apartSegments, [SegmentId.streams,
          SegmentId.schedule, SegmentId.doors, SegmentId.port]],
        (sessionRig [0x14, 2, 0, 0, 0, 0, 0, 0] 2 .stop completed).sessionIn l) ∧
      (let reply := fun page => (after (.classifyFrame .vehicle) (requestRig [3, page])).path.vehicleTx
        |>.map fun f => f.frame.payload.length
      [0, 8].map reply = [some 14, some 11]) ∧
      (∀ p ∈ [[2], [9, 1], [0], [0x16], [0x0B, 8], [0x0B, 8, 0xFA, 0x24], [0x0C, 8], [0x0D, 9],
        [0x0E, 9], [0x0F, 4], [8], [0x15], [0x10, 0, 0, 0x80], [0x11], [0x13], [1], [3, 2],
        [4, 2, 0, 1], [0x0A], [0x12], [0x14, 2, 0, 0, 0, 0, 0, 0]],
      (requestRig p).path.vehicleRx = [frameOf 0xE00 .manage 5 p]) ∧
      manageStream (requestRig [2]).path.node = 0xE00 ∧ (requestRig [2]).agent.session = none ∧
      (requestRig [2]).agent.restartPending = false ∧ (requestRig [2]).running = true ∧
      (agentRig ({ · with restartPending := true }) (requestRig [2])).agent.restartPending = true ∧
      ((requestRig []).slotAt 9).state = .ok ∧ ((requestRig []).slotAt 9).manual = false ∧
      (let s := (requestRig [0x0F, 9]).setSlot 9 { rig.slotAt 9 with state := .faulted, mismatch := 3 }
      (s.slotAt 9).state ≠ .unbound ∧ (s.slotAt 9).asks.cooling = none ∧
        ((after (.classifyFrame .vehicle) s).slotAt 9).state = .ok) ∧
      [[0x14, 3, 5, 0x32, 0, 0, 0, 0], [0x14, 0, 7, 0x32, 0, 0, 0, 0], [0x14, 1, 4, 2, 0, 0, 0, 0],
        [0x14, 0, 0, 5, 0, 0, 0, 0], [0x14, 1, 5, 0x32, 0, 0, 0, 0]].map (fun p =>
          (after (.classifyFrame .vehicle) (requestRig p)).override.lastResult) =
        [.refusedInvalid, .refusedInvalid, .refusedInvalid, .refusedInvalid, .notFound] ∧
      (after (.classifyFrame .vehicle) { requestRig [0x14, 0, 4, 8, 0, 0, 0, 0] with
        override := fullRig.override }).override.lastResult = .refusedFull ∧
      90 + (requestRig []).reservedPower 9 .line ≤ (requestRig []).poolBudget .line ∧
      (requestRig []).budget.state = .live ∧ (serviceRig.slotAt 9).manual = true ∧
      (serviceRig.channelAt 8).quality = .forced ∧ (8 : Fin 48) ∈ serviceRig.outdoorSources ∧
      47 < 48 ∧ 31 < 32 ∧ (requestRig []).agent.storeOp ≠ none ∧
      (crowded 24).path.vehicleQueue.length = 24 ∧
      (requestRig []).agent.service.map Service.allowClears = some true ∧
      (let s := after (.classifyFrame .vehicle)
        { requestRig [0x11] with
          notice := { rig.notice with
            entry := { cabMask := 0x800000, depotMask := 0, storeUnmasked := false } } }
      s.notice.cab = { raised := true, count := rig.notice.cab.count + 1 }) ∧
      (let s := agentRig ({ · with session := none })
        (withFrame (raisedRig 21) .vehicle (frameOf 0xE00 .manage 5 [0x10, 0, 2, 0]))
      s.agent.session = none ∧ s.path.vehicleQueue.length < 22 ∧
        s.agent.service.map Service.allowClears = some true ∧
        (after (.classifyFrame .vehicle) s).notice.cab = { raised := true, count := 4 }) := by
  unfold State.sessionIn
  decide +kernel

/-- A session at rest whose hand-over is no LOADS or SUPPLY contents, and one that hands over SUPPLY. -/
theorem witness_SessionBreaks_at_rest :
    (∀ p completed, (sessionRig p 7 .stop completed).loadsAtRest) ∧
      (rig.agent.session.map fun x => handedParts x.segment) = some [.schedule] ∧
      .supply ∈ handedParts SegmentId.supply ∧ .supply ∉ handedParts SegmentId.schedule ∧
      .loads ∉ handedParts SegmentId.schedule :=
  ⟨fun _ _ => rig_loadsAtRest, by decide +kernel⟩

/-- An entry of the SCHEDULE segment that completes in the last place of a STOP and of a WRAP session; the
boundary part and lengths; LOAD_BEGIN at the last segment, entry and mode; LOAD_END; a request that breaks
the session, with and without a completed entry; and LOAD_DATA without a session. -/
theorem witness_SessionBreaks :
    (∀ completed ∈ [0, 1],
      let s := sessionRig [0x16] 2 .stop completed
      let t := after (.classifyFrame .vehicle) s
      s.running = true ∧ s.agent.restartPending = false ∧
        s.agent.session.map Session.completed = some completed ∧
        t.agent.session = none ∧ t.notice.raw .loadBroken = true ∧
        t.zone.schedulePending = decide (completed ≠ 0)) ∧
      (requestRig [6, 0]).agent.session = none ∧
      (requestRig [6, 0]).path.vehicleRx = [frameOf 0xE00 .manage 5 [6, 0]] ∧
      (rig.running = true ∧ rig.agent.session.map (fun x => (x.timer, x.completed)) =
      some (some 12000, 1)) ∧
      (∀ p ∈ [[5, 10, 0, 1], [5, 3, 7, 1], [5, 11, 0, 0], [5, 3, 8, 0], [5, 3, 7, 2]],
        (requestRig p).agent.session = none ∧
          (requestRig p).path.vehicleRx = [frameOf 0xE00 .manage 5 p]) ∧
      entryCount SegmentId.schedule = 8 ∧ entrySize SegmentId.schedule = 8 ∧
      openAccess SegmentId.schedule = true ∧ openAccess SegmentId.port = false ∧
      (let s := after (.classifyFrame .vehicle)
        (sessionRig [6, 0x80, 1, 0, 4, 100, 7, 208, 30, 0] 7 .stop)
      s.agent.session = none ∧ s.zone.schedulePending = true) ∧
      (let s := after (.classifyFrame .vehicle)
        (sessionRig [6, 0x80, 1, 0, 4, 100, 7, 208, 30, 0] 7 .wrap)
      s.agent.session.map (fun x => (x.cursor, x.completed)) = some (0, 2)) ∧
      ((after (.classifyFrame .vehicle) (sessionRig [6, 0, 1, 0, 4] 7 .stop)).agent.session.map
        fun x => (x.expected, x.buffer.length)) = some (1, 3) ∧
      (after (.classifyFrame .vehicle) (sessionRig [7] 7 .stop)).agent.session = none := by
  decide +kernel

theorem witness_StoreCompletes : rig.running = true ∧ rig.agent.storeOp.isSome := by
  decide +kernel

theorem witness_ServiceModeEnds :
    serviceRig.running = true ∧
      serviceRig.agent.service.map Service.timer = some (some 20000) ∧
      (serviceRig.channelAt 8).quality = .forced ∧ 8 ∈ serviceRig.outdoorSources ∧
      (serviceRig.slotAt 9).manual = true ∧ serviceRig.loadsSettled := by
  unfold State.loadsSettled
  decide +kernel

theorem witness_StepKeepsTheBounds :
    ∃ s t : State, s.path.bounded ∧ s.override.lawful ∧ step s = .next t := by
  refine ⟨queued [.cancelAll], after .cancelAll rig, ?_, ?_, rfl⟩
  · unfold FramePath.bounded
    decide +kernel
  · unfold OverrideUnit.lawful
    decide +kernel

theorem witness_StepKeepsTheZonesBounded :
    ∃ s t : State, (∀ z, (s.zoneAt z).bounded) ∧ step s = .next t := by
  refine ⟨queued [.zonePass 2], after (.zonePass 2) rig, ?_, rfl⟩
  unfold ZoneRec.bounded
  decide +kernel

theorem witness_StepKeepsTheBudgets :
    ∃ s t : State, s.budget.granted ∧ s.withinBudgets ∧ step s = .next t := by
  refine ⟨queued [.budgetPeriodExpiry], after .budgetPeriodExpiry rig, ?_, fun pool => ?_, rfl⟩
  · unfold BudgetUnit.granted
    decide +kernel
  · cases pool <;> decide +kernel

theorem witness_StepKeepsTheControllerAtRest :
    ∃ s t : State, (s.running = true ∧ s.atRest) ∧ step s = .next t ∧ t.running = true := by
  refine ⟨queued [.plantSilenceExpiry], after .plantSilenceExpiry rig, ?_, rfl, by decide +kernel⟩
  unfold State.atRest State.levelsFollow FramePath.busyOrEmpty
  decide +kernel

end Sys2Proof.Tests
end

section
/-!
PROOFS. The rounding words (R1) and limiting (section 4.4): what each division leaves of the exact
quotient, and the value of `clamp` inside and outside its range.
-/

namespace Sys2Proof.Proofs

open Sys2Proof.Machine

/-! ## Floor and ceiling -/

theorem divFloor_mul_le (n : Int) {d : Int} (hd : 0 < d) : divFloor n d * d ≤ n := by
  rw [divFloor, Int.fdiv_eq_ediv_of_nonneg n hd.le]
  exact Int.ediv_mul_le n hd.ne'

theorem lt_divFloor_add_one_mul (n : Int) {d : Int} (hd : 0 < d) : n < (divFloor n d + 1) * d := by
  rw [divFloor, Int.fdiv_eq_ediv_of_nonneg n hd.le]
  exact Int.lt_ediv_add_one_mul_self n hd

/-- The ceiling is the floor mirrored at zero. -/
theorem divCeil_eq_neg_divFloor (n d : Int) : divCeil n d = -divFloor (-n) d := rfl

theorem divCeil_sub_one_mul_lt (n : Int) {d : Int} (hd : 0 < d) : (divCeil n d - 1) * d < n := by
  rw [divCeil_eq_neg_divFloor]
  linarith only [lt_divFloor_add_one_mul (-n) hd]

theorem le_divCeil_mul (n : Int) {d : Int} (hd : 0 < d) : n ≤ divCeil n d * d := by
  rw [divCeil_eq_neg_divFloor]
  linarith only [divFloor_mul_le (-n) hd]

/-! ## Toward zero -/

/-- The magnitude of the division toward zero is the division of the magnitudes. -/
theorem natAbs_divTowardZero_mul (n d : Int) :
    (divTowardZero n d * d).natAbs = n.natAbs / d.natAbs * d.natAbs := by
  rw [divTowardZero, Int.natAbs_mul, Int.natAbs_tdiv]
  rfl

theorem natAbs_divTowardZero_mul_le (n d : Int) : (divTowardZero n d * d).natAbs ≤ n.natAbs := by
  rw [natAbs_divTowardZero_mul]
  exact Nat.div_mul_le_self n.natAbs d.natAbs

theorem natAbs_lt_divTowardZero_mul_add (n : Int) {d : Int} (hd : 0 < d) :
    n.natAbs < (divTowardZero n d * d).natAbs + d.natAbs := by
  rw [natAbs_divTowardZero_mul]
  exact Nat.lt_div_mul_add (Int.natAbs_pos.mpr hd.ne')

theorem divTowardZero_mul_self_nonneg (n : Int) {d : Int} (hd : 0 < d) :
    0 ≤ divTowardZero n d * n := by
  rcases le_total 0 n with hn | hn
  · exact mul_nonneg (Int.tdiv_nonneg hn hd.le) hn
  · have hneg : 0 ≤ -n.tdiv d := Int.neg_tdiv n d ▸ Int.tdiv_nonneg (neg_nonneg.mpr hn) hd.le
    exact mul_nonneg_of_nonpos_of_nonpos (neg_nonneg.mp hneg) hn

/-! ## Nearest -/

theorem divNearest_of_nonneg {n : Int} (hn : 0 ≤ n) (d : Int) :
    divNearest n d = divFloor (2 * n + d) (2 * d) := if_pos hn

/-- Below zero the nearest division mirrors that of the magnitude: halves go away from zero. -/
theorem divNearest_of_neg {n : Int} (hn : n < 0) (d : Int) :
    divNearest n d = -divNearest (-n) d := by
  rw [divNearest_of_nonneg (by omega : 0 ≤ -n)]
  exact if_neg (by omega)

/-- From zero up the product overshoots by at most half of `d` and falls short by less than half. -/
theorem divNearest_error_of_nonneg {n d : Int} (hn : 0 ≤ n) (hd : 0 < d) :
    2 * (divNearest n d * d) ≤ 2 * n + d ∧ 2 * n < 2 * (divNearest n d * d) + d := by
  rw [divNearest_of_nonneg hn]
  have hle := divFloor_mul_le (2 * n + d) (by omega : 0 < 2 * d)
  have hlt := lt_divFloor_add_one_mul (2 * n + d) (by omega : 0 < 2 * d)
  constructor <;> linarith only [hle, hlt]

/-- The product of the nearest division is within half of `d` of `n`, and exactly half away only
where its magnitude is the larger one. -/
theorem divNearest_within_half (n : Int) {d : Int} (hd : 0 < d) :
    2 * (n - divNearest n d * d).natAbs ≤ d.natAbs ∧
      (2 * (n - divNearest n d * d).natAbs = d.natAbs →
        n.natAbs < (divNearest n d * d).natAbs) := by
  rcases lt_or_ge n 0 with hn | hn
  · obtain ⟨hover, hshort⟩ := divNearest_error_of_nonneg (by omega : 0 ≤ -n) hd
    rw [divNearest_of_neg hn, neg_mul]
    omega
  · obtain ⟨hover, hshort⟩ := divNearest_error_of_nonneg hn hd
    omega

/-! ## Limiting -/

theorem clamp_of_lt {x lo : Int} (hx : x < lo) (hi : Int) : clamp x lo hi = lo :=
  max_eq_left ((min_le_left x hi).trans hx.le)

theorem clamp_of_mem {x lo hi : Int} (hlo : lo ≤ x) (hhi : x ≤ hi) : clamp x lo hi = x := by
  rw [clamp, min_eq_left hhi, max_eq_right hlo]

theorem clamp_of_gt {x lo hi : Int} (hr : lo ≤ hi) (hx : hi < x) : clamp x lo hi = hi := by
  rw [clamp, min_eq_right hx.le, max_eq_right hr]

/-! ## The statement -/

/-- Settles O1: each rounding word by its own characterisation, CHOP and NEAREST by definition,
clamp by the place of `x`. -/
theorem roundingWords : Obligations.RoundingWords :=
  ⟨fun n _ hd =>
    ⟨⟨natAbs_divTowardZero_mul_le n _, natAbs_lt_divTowardZero_mul_add n hd,
        divTowardZero_mul_self_nonneg n hd⟩,
      divNearest_within_half n hd,
      ⟨divFloor_mul_le n hd, lt_divFloor_add_one_mul n hd⟩,
      ⟨divCeil_sub_one_mul_lt n hd, le_divCeil_mul n hd⟩⟩,
    fun _ _ => ⟨rfl, rfl⟩,
    fun _ _ _ hr => ⟨fun hx => clamp_of_lt hx _, clamp_of_mem, clamp_of_gt hr⟩⟩

end Sys2Proof.Proofs
end

section
/-!
PROOFS. The allocation of a pool (R69 to R71): over a list of requests, what each group is granted and
what a group that is not granted in full leaves to the later ones; over a state, which load the row of
each slot is allocated as, and the sums of the statement as sums of those loads.
-/

namespace Sys2Proof.Proofs

open Sys2Proof.Machine

/-! ## One group of requests -/

/-- The grant of a load of a group that is served with `power` left: the manual requests and the
requests of a class are such groups (R69, R70). -/
def groupGrant (power : Nat) (group : List PoolLoad) (l : PoolLoad) : Nat :=
  if requested group ≤ power then l.request else l.scaled power (requested group)

theorem scaled_le (l : PoolLoad) (power sum : Nat) :
    l.scaled power sum ≤ l.request * power / sum := by
  unfold PoolLoad.scaled
  dsimp only
  split
  · exact Nat.zero_le _
  · exact le_rfl

/-- The floors of the shares of a power that is too small do not add up to more than it. -/
theorem sum_scaled_le {power : Nat} {group : List PoolLoad} (h : power < requested group) :
    (group.map fun l => l.scaled power (requested group)).sum ≤ power := by
  have share (l : PoolLoad) :
      l.scaled power (requested group) * requested group ≤ l.request * power :=
    (Nat.mul_le_mul_right _ (scaled_le l _ _)).trans (Nat.div_mul_le_self _ _)
  refine Nat.le_of_mul_le_mul_right ?_ (Nat.zero_lt_of_lt h)
  calc (group.map fun l => l.scaled power (requested group)).sum * requested group
      = (group.map fun l => l.scaled power (requested group) * requested group).sum :=
        (List.sum_map_mul_right ..).symm
    _ ≤ (group.map fun l => l.request * power).sum := List.sum_le_sum fun l _ => share l
    _ = requested group * power := List.sum_map_mul_right ..
    _ = power * requested group := Nat.mul_comm ..

/-- A group is granted no more than what is left and no more than it asks. -/
theorem sum_groupGrant_le (power : Nat) (group : List PoolLoad) :
    (group.map (groupGrant power group)).sum ≤ min power (requested group) := by
  rcases le_or_gt (requested group) power with hfit | hshort
  · have full : group.map (groupGrant power group) = group.map PoolLoad.request :=
      List.map_congr_left fun l _ => if_pos hfit
    rw [full]
    exact le_min hfit le_rfl
  · have scaled : group.map (groupGrant power group) =
        group.map fun l => l.scaled power (requested group) :=
      List.map_congr_left fun l _ => if_neg hshort.not_ge
    rw [scaled]
    have := sum_scaled_le hshort
    omega

theorem lt_requested_of_groupGrant_lt {power : Nat} {group : List PoolLoad} {l : PoolLoad}
    (h : groupGrant power group l < l.request) : power < requested group := by
  by_contra hfit
  rw [groupGrant, if_pos (not_lt.mp hfit)] at h
  exact lt_irrefl _ h

/-! ## The groups of a pool -/

section Groups

variable {budget : Nat} {loads : List PoolLoad} {l : PoolLoad}

theorem poolGrant_of_manual (h : l.manual = true) :
    poolGrant budget loads l = groupGrant budget (manualLoads loads) l := if_pos h

theorem poolGrant_of_class {k : Fin 4} (h : l.manual = false) (hk : l.cls = k) :
    poolGrant budget loads l = if budget < askedBefore loads k then 0
      else groupGrant (budget - askedBefore loads k) (classLoads loads k) l := by
  subst hk
  simp only [poolGrant, h, Bool.false_eq_true, if_false, groupGrant]

theorem poolGrant_eq_zero (h : l.manual = false) (hb : budget < askedBefore loads l.cls) :
    poolGrant budget loads l = 0 := by
  rw [poolGrant_of_class h rfl, if_pos hb]

/-- What is asked before a class, over the classes below it. -/
theorem askedBefore_eq (loads : List PoolLoad) (k : Fin 4) :
    askedBefore loads k = requested (manualLoads loads) +
      ∑ j ∈ Finset.Iio k, requested (classLoads loads j) := by
  have below : ∀ k : Fin 4, (askedBefore.allClasses.filter (· < k)).toFinset = Finset.Iio k := by
    decide
  have once : askedBefore.allClasses.Nodup := by decide
  rw [askedBefore, ← List.sum_toFinset _ (once.filter _), below]

theorem askedBefore_add_le (loads : List PoolLoad) {j k : Fin 4} (h : j < k) :
    askedBefore loads j + requested (classLoads loads j) ≤ askedBefore loads k := by
  have sub : insert j (Finset.Iio j) ⊆ Finset.Iio k := by
    intro i hi
    simp only [Finset.mem_insert, Finset.mem_Iio] at hi ⊢
    omega
  have grow := Finset.sum_le_sum_of_subset (f := fun i => requested (classLoads loads i)) sub
  rw [Finset.sum_insert (by simp)] at grow
  rw [askedBefore_eq, askedBefore_eq]
  omega

/-- A request that is not granted in full leaves nothing for the higher classes. -/
theorem lt_askedBefore_of_grant_lt {k : Fin 4} (h : poolGrant budget loads l < l.request)
    (hk : l.cls < k) : budget < askedBefore loads k := by
  cases hm : l.manual with
  | true =>
    rw [poolGrant_of_manual hm] at h
    have short := lt_requested_of_groupGrant_lt h
    rw [askedBefore_eq]
    omega
  | false =>
    have through := askedBefore_add_le loads hk
    rw [poolGrant_of_class hm rfl] at h
    split at h
    case isTrue _ => omega
    case isFalse _ =>
      have short := lt_requested_of_groupGrant_lt h
      omega

theorem sum_manual_grants_le (budget : Nat) (loads : List PoolLoad) :
    ((manualLoads loads).map (poolGrant budget loads)).sum ≤
      min budget (requested (manualLoads loads)) := by
  have grants : (manualLoads loads).map (poolGrant budget loads) =
      (manualLoads loads).map (groupGrant budget (manualLoads loads)) :=
    List.map_congr_left fun l hl => poolGrant_of_manual (List.mem_filter.mp hl).2
  rw [grants]
  exact sum_groupGrant_le _ _

theorem sum_class_grants_le (budget : Nat) (loads : List PoolLoad) (k : Fin 4) :
    ((classLoads loads k).map (poolGrant budget loads)).sum ≤
      min (budget - askedBefore loads k) (requested (classLoads loads k)) := by
  have grant (l : PoolLoad) (hl : l ∈ classLoads loads k) : poolGrant budget loads l =
      if budget < askedBefore loads k then 0
        else groupGrant (budget - askedBefore loads k) (classLoads loads k) l := by
    simp only [classLoads, List.mem_filter, Bool.and_eq_true, Bool.not_eq_true', beq_iff_eq] at hl
    exact poolGrant_of_class hl.2.1 hl.2.2
  rw [List.map_congr_left grant]
  split
  · simp
  · exact sum_groupGrant_le _ _

/-- Every load is manual or of one class. -/
theorem sum_eq_manual_add_classes (f : PoolLoad → Nat) (loads : List PoolLoad) :
    (loads.map f).sum = ((manualLoads loads).map f).sum +
      ∑ k, ((classLoads loads k).map f).sum := by
  induction loads with
  | nil => rfl
  | cons l loads ih =>
    rw [List.map_cons, List.sum_cons, ih]
    cases hm : l.manual with
    | true => simp [manualLoads, classLoads, hm, Nat.add_assoc]
    | false =>
      have one (k : Fin 4) : ((classLoads (l :: loads) k).map f).sum =
          (if l.cls = k then f l else 0) + ((classLoads loads k).map f).sum := by
        by_cases hk : l.cls = k <;> simp [classLoads, hm, hk]
      simp only [one, Finset.sum_add_distrib, Finset.sum_ite_eq, Finset.mem_univ, if_true,
        manualLoads, List.filter_cons, hm, Bool.false_eq_true, if_false]
      omega

/-- Each group ends within the budget or within what is asked up to its own end, so the next one
starts where it left off. -/
theorem sum_poolGrant_le (budget : Nat) (loads : List PoolLoad) :
    (loads.map (poolGrant budget loads)).sum ≤ budget := by
  have manual := sum_manual_grants_le budget loads
  have first : askedBefore loads 0 = requested (manualLoads loads) := rfl
  have class0 := sum_class_grants_le budget loads 0
  have class1 := sum_class_grants_le budget loads 1
  have class2 := sum_class_grants_le budget loads 2
  have class3 := sum_class_grants_le budget loads 3
  have upTo1 := askedBefore_add_le loads (show (0 : Fin 4) < 1 by decide)
  have upTo2 := askedBefore_add_le loads (show (1 : Fin 4) < 2 by decide)
  have upTo3 := askedBefore_add_le loads (show (2 : Fin 4) < 3 by decide)
  rw [sum_eq_manual_add_classes, Fin.sum_univ_four]
  omega

end Groups

/-! ## The loads of a state -/

section Loads

variable (s : State) (pool : Pool)

/-- The slot takes part in the allocation of the pool (R65, R68). -/
def inPool (i : Fin 32) : Bool :=
  (s.slotAt i).participates && (s.slotAt i).entry.any (·.pool = pool)

/-- The load as which a slot that takes part is allocated. -/
def poolLoad (i : Fin 32) : PoolLoad :=
  { slot := i, request := (s.rowAt i).request, cls := (s.rowAt i).cls
    manual := (s.slotAt i).manual, minPower := (s.slotAt i).entry.elim 0 LoadEntry.minPower }

/-- The grant of a slot that takes part. -/
def grantOf (i : Fin 32) : Nat :=
  poolGrant (s.poolBudget pool) (s.poolLoads pool) (poolLoad s i)

variable {s pool}

theorem inPool_iff {i : Fin 32} : inPool s pool i = true ↔
    (s.slotAt i).participates = true ∧ (s.slotAt i).entry.any (·.pool = pool) = true :=
  Bool.and_eq_true_iff

/-- The adopted pool of a slot is one pool. -/
theorem eq_of_inPool {i : Fin 32} {p : Pool} (h : inPool s pool i = true)
    (hp : inPool s p i = true) : p = pool := by
  obtain ⟨_, h⟩ := inPool_iff.mp h
  obtain ⟨_, hp⟩ := inPool_iff.mp hp
  cases he : (s.slotAt i).entry with
  | none => simp [he] at h
  | some l =>
    simp only [he, Option.any_some, decide_eq_true_eq] at h hp
    exact hp.symm.trans h

variable (s pool)

theorem poolLoads_eq :
    s.poolLoads pool = (allSlots.filter (inPool s pool)).map (poolLoad s) := by
  rw [← List.filterMap_eq_map, List.filterMap_filter]
  refine List.filterMap_congr fun i _ => ?_
  cases he : (s.slotAt i).entry with
  | none => simp [inPool, he]
  | some l => simp [inPool, poolLoad, he]

/-- A sum over the loads of a pool that pass a test, as a sum over every slot. -/
theorem sum_poolLoads_filter (p : PoolLoad → Bool) (f : PoolLoad → Nat) :
    (((s.poolLoads pool).filter p).map f).sum =
      (allSlots.map fun i =>
        if inPool s pool i && p (poolLoad s i) then f (poolLoad s i) else 0).sum := by
  rw [poolLoads_eq, List.filter_map, List.filter_filter, List.map_map]
  induction allSlots with
  | nil => rfl
  | cons i l ih =>
    rw [List.filter_cons, List.map_cons, List.sum_cons, ← ih]
    cases inPool s pool i <;> cases hp : p (poolLoad s i) <;> simp [hp]

theorem classSum_eq (k : Fin 4) :
    s.classSum pool k = requested (classLoads (s.poolLoads pool) k) := by
  rw [requested, classLoads, sum_poolLoads_filter]
  simp only [State.classSum, inPool, poolLoad, Bool.and_assoc]

theorem manualSum_eq : s.manualSum pool = requested (manualLoads (s.poolLoads pool)) := by
  rw [requested, manualLoads, sum_poolLoads_filter]
  rfl

/-- What is left for a class is the budget without what is asked before it. -/
theorem leftFor_eq (k : Fin 4) :
    s.leftFor pool k = (s.poolBudget pool : Int) - askedBefore (s.poolLoads pool) k := by
  rw [State.leftFor, askedBefore, manualSum_eq, Nat.cast_add, Nat.cast_list_sum, List.map_map,
    ← sub_sub]
  simp only [classSum_eq]
  rfl

/-! ## The rows after an allocation -/

variable {s pool} {i : Fin 32}

theorem poolGrants_eq : s.poolGrants pool =
    (allSlots.filter (inPool s pool)).map fun i => (i, grantOf s pool i) := by
  rw [State.poolGrants, poolLoads_eq, List.map_map]
  simp only [grantOf, poolLoads_eq]
  rfl

theorem find?_poolGrants (h : inPool s pool i = true) :
    (s.poolGrants pool).find? (·.1 = i) = some (i, grantOf s pool i) := by
  have mem : i ∈ allSlots.filter (inPool s pool) :=
    List.mem_filter.mpr ⟨List.mem_finRange i, h⟩
  have found : ((allSlots.filter (inPool s pool)).find? (· = i)).isSome :=
    List.find?_isSome.mpr ⟨i, mem, decide_eq_true rfl⟩
  obtain ⟨j, hj⟩ := Option.isSome_iff_exists.mp found
  have same : j = i := of_decide_eq_true (List.find?_some hj :)
  rw [poolGrants_eq, List.find?_map]
  exact congrArg _ (hj.trans (congrArg some same))

theorem find?_poolGrants_eq_none (h : inPool s pool i = false) :
    (s.poolGrants pool).find? (·.1 = i) = none := by
  rw [poolGrants_eq, List.find?_eq_none]
  rintro ⟨j, g⟩ hj same
  obtain ⟨k, hk, hkj⟩ := List.mem_map.mp hj
  have : k = i := (Prod.mk.inj hkj).1.trans (of_decide_eq_true same)
  simp [this, h] at hk

theorem rowAt_allocate : s.allocate.rowAt i = (s.rowAt i).withGrant
    ((((s.poolGrants .line).find? (·.1 = i)).or
      ((s.poolGrants .battery).find? (·.1 = i))).map Prod.snd) := by
  rw [← List.find?_append]
  exact Table.get_map _ _ _

/-- The row of a slot that takes part is written from its own pool. -/
theorem rowAt_allocate_of_inPool (h : inPool s pool i = true) :
    s.allocate.rowAt i = (s.rowAt i).withGrant (some (grantOf s pool i)) := by
  rw [rowAt_allocate]
  cases pool with
  | line => rw [find?_poolGrants h]; rfl
  | battery =>
    have other : inPool s .line i = false :=
      Bool.eq_false_iff.mpr fun hl => Pool.noConfusion (eq_of_inPool h hl)
    rw [find?_poolGrants_eq_none other, find?_poolGrants h]; rfl

/-- The row of a slot that takes no part is cleared (R65). -/
theorem rowAt_allocate_of_apart (h : (s.slotAt i).participates = false) :
    s.allocate.rowAt i = (s.rowAt i).withGrant none := by
  have apart (p : Pool) : inPool s p i = false := by simp [inPool, h]
  rw [rowAt_allocate, find?_poolGrants_eq_none (apart _), find?_poolGrants_eq_none (apart _)]
  rfl

/-- A slot with an entry in the pool is allocated by the pool or cleared. -/
theorem rowAt_allocate_cases (h : (s.slotAt i).entry.any (·.pool = pool) = true) :
    (inPool s pool i = true ∧
      s.allocate.rowAt i = (s.rowAt i).withGrant (some (grantOf s pool i))) ∨
    (inPool s pool i = false ∧ s.allocate.rowAt i = (s.rowAt i).withGrant none) := by
  cases hp : (s.slotAt i).participates with
  | true =>
    have hin := inPool_iff.mpr ⟨hp, h⟩
    exact .inl ⟨hin, rowAt_allocate_of_inPool hin⟩
  | false => exact .inr ⟨by simp [inPool, hp], rowAt_allocate_of_apart hp⟩

variable (s pool) in
/-- The grants of a pool are those of its loads. -/
theorem granted_allocate : s.allocate.granted pool =
    ((s.poolLoads pool).map (poolGrant (s.poolBudget pool) (s.poolLoads pool))).sum := by
  rw [← List.filter_true (s.poolLoads pool), sum_poolLoads_filter, List.filter_true, State.granted]
  refine congrArg _ (List.map_congr_left fun i _ => ?_)
  by_cases he : (s.slotAt i).entry.any (·.pool = pool) = true
  · rw [if_pos (show (s.allocate.slotAt i).entry.any (·.pool = pool) = true from he), Bool.and_true]
    rcases rowAt_allocate_cases he with ⟨hin, hrow⟩ | ⟨hin, hrow⟩
    · rw [hrow, if_pos hin]; rfl
    · rw [hrow, hin]; rfl
  · have hin : ¬ inPool s pool i = true := fun hin => he (inPool_iff.mp hin).2
    rw [if_neg (show ¬ (s.allocate.slotAt i).entry.any (·.pool = pool) = true from he),
      Bool.and_true, if_neg hin]

/-! ## The statement -/

/-- A slot of class `k` that is not manual is served from what is left for the class. -/
theorem grantOf_of_class {k : Fin 4} {l : LoadEntry} (hl : (s.slotAt i).entry = some l)
    (hm : (s.slotAt i).manual = false) (hk : (s.rowAt i).cls = k) :
    ((s.classSum pool k : Int) ≤ s.leftFor pool k → grantOf s pool i = (s.rowAt i).request) ∧
    (0 ≤ s.leftFor pool k → s.leftFor pool k < s.classSum pool k →
      grantOf s pool i =
        scaledGrant (s.rowAt i).request (s.leftFor pool k).toNat (s.classSum pool k) l.minPower) ∧
    (s.leftFor pool k < 0 → grantOf s pool i = 0) := by
  have least : (poolLoad s i).minPower = l.minPower := by simp [poolLoad, hl]
  rw [grantOf, poolGrant_of_class hm hk, leftFor_eq, classSum_eq, Int.toNat_sub, groupGrant]
  refine ⟨fun hfit => ?_, fun hleft hshort => ?_, fun hnone => ?_⟩
  · rw [if_neg (by omega), if_pos (by omega)]
    rfl
  · rw [if_neg (by omega), if_neg (by omega), ← least]
    rfl
  · exact if_pos (by omega)

end Loads

/-- Settles O33: the row of a slot that takes part holds the grant of its load, and of the loads of a
pool the groups are served one after the other from what the earlier ones leave. -/
theorem allocationByClasses : Obligations.AllocationByClasses := by
  intro s pool
  refine ⟨?_, ?_, ?_⟩
  · intro i l k left hl hpool hpart hm hk hleft
    have hin : inPool s pool i = true := inPool_iff.mpr ⟨hpart, by simp [hl, hpool]⟩
    rw [hleft, rowAt_allocate_of_inPool hin]
    exact ⟨rfl, hk, grantOf_of_class hl hm hk⟩
  · rw [granted_allocate]
    exact sum_poolGrant_le _ _
  · intro hmanual i j hi hj hshort hcls
    rcases rowAt_allocate_cases hi with ⟨_, hrow⟩ | ⟨_, hrow⟩
    case inr => simp [hrow, GrantRow.withGrant] at hshort
    rcases rowAt_allocate_cases hj with ⟨_, hrow'⟩ | ⟨_, hrow'⟩
    case inr => rw [hrow']; rfl
    rw [hrow] at hshort
    rw [hrow, hrow'] at hcls
    rw [hrow']
    have hnot : (s.slotAt j).manual = false :=
      Bool.eq_false_iff.mpr fun hj => Nat.not_lt_zero _ (hmanual j hj ▸ hcls)
    exact poolGrant_eq_zero hnot (lt_askedBefore_of_grant_lt hshort hcls)

end Sys2Proof.Proofs
end

section
/-!
PROOFS. A sample frame at the sample unit (R129 to R131): the channel's record after the event is the
record of a plausible or an implausible sample, by the bounds of R130 alone.
-/

namespace Sys2Proof.Proofs

open Sys2Proof.Machine

/-! ## The channel records of a state -/

/-- States that agree in the sample unit hold the same channel records. -/
theorem channelAt_of_agrees {l : List Part} {s t : State} (h : AgreeExcept l s t)
    (hl : .channels ∉ l) (c : Fin 48) : t.channelAt c = s.channelAt c :=
  congrArg (·.channels.get c) (h .channels hl)

@[simp] theorem channelAt_taken (s : State) (i : Instr) (c : Fin 48) :
    (s.taken i).channelAt c = s.channelAt c := rfl

/-- The derivation of the outdoor value reads the channels and writes none (R139). -/
@[simp] theorem channelAt_putOutdoor (s : State) (c : Fin 48) :
    s.putOutdoor.channelAt c = s.channelAt c := by
  unfold State.putOutdoor
  split <;> rfl

@[simp] theorem channelAt_moveChannel_self (s : State) (c : Fin 48) (r : ChannelRec) :
    (s.moveChannel c r).channelAt c = r := by
  unfold State.moveChannel
  dsimp only
  split
  · rw [channelAt_putOutdoor, State.channelAt_setChannel_self]
  · exact s.channelAt_setChannel_self c r

@[simp] theorem channelAt_done (e : Event) (c : Fin 48) : e.done.channelAt c = e.st.channelAt c :=
  channelAt_of_agrees e.done_agrees (by decide) c

/-- The notice and the fault of an entry into IMPLAUSIBLE leave the record that entered (R136). -/
theorem channelAt_enterImplausible (e : Event) (c : Fin 48) :
    (e.enterImplausible c).st.channelAt c = (e.st.channelAt c).toImplausible := by
  have noticed := (Event.raise_touches
    (e.map fun s => s.moveChannel c (s.channelAt c).toImplausible) .channelImplausible).trans
      (Event.fault_touches _ .channelImplausible c.val)
  rw [Event.enterImplausible, channelAt_of_agrees noticed (by decide) c, Event.map_st,
    channelAt_moveChannel_self]

/-! ## The record after a sample -/

theorem plausible_iff (e : ChannelEntry) (x : Int) : e.plausible x = true ↔ e.low ≤ x ∧ x ≤ e.high :=
  decide_eq_true_iff

theorem quality_slewed (r : ChannelRec) (x : Int) : (r.slewed x).quality = .fresh := by
  unfold ChannelRec.slewed
  split <;> rfl

/-- A plausible sample makes a channel FRESH at once from every quality that neither counts samples nor
keeps a forced value (R131); the slew clamp does not bear on the quality. -/
theorem quality_plausibleSample {r : ChannelRec} (hforced : r.quality ≠ .forced)
    (himplausible : r.quality ≠ .implausible) (x : Int) :
    (r.plausibleSample x).quality = .fresh := by
  unfold ChannelRec.plausibleSample
  split
  case h_1 | h_4 => rfl
  case h_2 | h_3 => exact quality_slewed r x
  case h_5 hq => exact absurd hq himplausible
  case h_6 hq => exact absurd hq hforced

/-- An implausible sample enters IMPLAUSIBLE from every quality but that one and FORCED (R131). -/
theorem implausibleSample_eq_enterImplausible {e : Event} {c : Fin 48}
    (hforced : (e.st.channelAt c).quality ≠ .forced)
    (himplausible : (e.st.channelAt c).quality ≠ .implausible) :
    e.implausibleSample c = e.enterImplausible c := by
  unfold Event.implausibleSample
  split
  case h_1 | h_2 | h_3 | h_4 => rfl
  case h_5 hq => exact absurd hq himplausible
  case h_6 hq => exact absurd hq hforced

/-! ## The event of a sample frame -/

theorem sampleRaw_eq_some {f : Frame} (hkind : f.kind = .sample) (hlen : 2 ≤ f.payload.length) :
    sampleRaw f = some (s16At f.payload 0) :=
  if_pos ⟨hkind, hlen⟩

/-- A sample that the unit does not ignore, at a used channel that is not FORCED, is judged by its
scaled value (R129, R130). -/
theorem takeSample_eq_ite {s : State} {c : Fin 48} {f : Frame} {raw : Int}
    (hraw : sampleRaw f = some raw) (hused : (s.channelAt c).entry.quantity ≠ none)
    (hforced : (s.channelAt c).quality ≠ .forced) :
    takeSample s c f =
      if (s.channelAt c).entry.plausible ((s.channelAt c).entry.scale raw) then
        ((Event.of s).map fun s' => s'.moveChannel c
          ((s.channelAt c).plausibleSample ((s.channelAt c).entry.scale raw))).done
      else ((Event.of s).implausibleSample c).done := by
  have used : (s.channelAt c).used = true := Option.isSome_iff_ne_none.mpr hused
  simp [takeSample, hraw, used, hforced]

/-- At a used channel that is neither FORCED nor IMPLAUSIBLE the bounds decide between the records of a
plausible and of an implausible sample, and each has its quality (R130, R131). -/
theorem quality_takeSample {s : State} {c : Fin 48} {f : Frame} {raw : Int}
    (hraw : sampleRaw f = some raw) (hused : (s.channelAt c).entry.quantity ≠ none)
    (hforced : (s.channelAt c).quality ≠ .forced)
    (himplausible : (s.channelAt c).quality ≠ .implausible) :
    ((takeSample s c f).channelAt c).quality =
      if (s.channelAt c).entry.plausible ((s.channelAt c).entry.scale raw) then .fresh
      else .implausible := by
  rw [takeSample_eq_ite hraw hused hforced]
  split
  · rw [channelAt_done, Event.map_st, channelAt_moveChannel_self]
    exact quality_plausibleSample hforced himplausible _
  · rw [channelAt_done, implausibleSample_eq_enterImplausible hforced himplausible,
      channelAt_enterImplausible]
    rfl

theorem exec_sampleFrame {s : State} (hrun : s.running = true) (c : Fin 48) (f : Frame) :
    exec (.sampleFrame c f) s = .next (takeSample (s.taken (.sampleFrame c f)) c f) :=
  whenRunning_running hrun fun s => takeSample (s.taken (.sampleFrame c f)) c f

/-! ## The statement -/

/-- Settles O16: the quality after the event is decided by the scaled value's place in the bounds. The
frame's departure from the handed list leaves the channel as it was. -/
theorem plausibilityOfASample : Obligations.PlausibilityOfASample := by
  intro c f s x hrun hused hforced himplausible hkind hlen hx
  have raw := sampleRaw_eq_some hkind hlen
  have quality := quality_takeSample (s := s.taken (.sampleFrame c f)) raw hused hforced himplausible
  have scaled : (s.channelAt c).entry.scale (s16At f.payload 0) = x := hx.symm
  rw [channelAt_taken, scaled] at quality
  refine ⟨_, exec_sampleFrame hrun c f, fun inside => ?_, fun outside => ?_⟩
  · rw [quality, if_pos ((plausible_iff _ _).mpr inside)]
  · rw [quality, if_neg (mt (plausible_iff _ _).mp outside)]

end Sys2Proof.Proofs
end
